-- ==== Sys2Proof/Word.lean ====
section
/-! DEFINITION. The widths of the block's values (00_scope.md R4, R7). -/

namespace Sys2Proof

/-- An unsigned 8-bit value: parameters, levels, perturbations, event words (R4). -/
abbrev Byte := BitVec 8

/-- The 16-bit command word `cmd[15:0]` (R61). -/
abbrev CmdWord := BitVec 16

/-- A 32-bit word of the EuclideanTable (R44). -/
abbrev Mask := BitVec 32

/-- The 24-bit random input `rnd_i` (R73). -/
abbrev RndWord := BitVec 24

/-- A channel index, 0, 1 or 2 (R2). Index 3 does not exist. -/
abbrev Channel := Fin 3

end Sys2Proof
end

