-- ==== Sys2Proof/Config.lean ====
section
/-! DEFINITION. What the spec leaves to the platform: the open parameters of 92_eei_decisions.md, each a constant
with no body, so that a claim about the model holds whatever they are. `LAT` is read by no rule (R201) and has no
constant here. -/

namespace Sys2Proof

/-- Parameter `DM` (R4, R40, D12): the DrumMap byte at a flat address, where State lists none.
DESIGN CHOICE log 3, safe. -/
opaque Config.drumMapByte : Nat → Byte

/-- Parameter `EU` (R4, R40, D13): the EuclideanTable word at an index, where State lists none.
DESIGN CHOICE log 3, safe. -/
opaque Config.euclideanWord : Nat → Mask

/-- The free draws (R31, D11): the three bytes `rnd_i` shows at the n-th re-roll, where State lists none.
DESIGN CHOICE log 5, safe. -/
opaque Config.rndWord : Nat → RndWord

end Sys2Proof
end

