-- ==== Sys2Proof/Machine/State.lean ====
section
/-! DEFINITION. The state of the block (10_state.md), the host inputs it is driven by, its stops and its reset. -/

namespace Sys2Proof.Machine

/-- The two values of `outputMode` (R21): a closed enumeration. -/
inductive OutputMode where
  | grid
  | euclidean
  deriving DecidableEq, Repr

/-- The three values of `clockResolution` (R22). Code 3 is not a value of the register. -/
inductive ClockResolution where
  | ppqn4
  | ppqn8
  | ppqn24
  deriving DecidableEq, Repr

/-- The fault causes of the block (R170). Taking one is a next state (R174), not a stop of the model. -/
inductive Cause where
  /-- Code 1: a reserved command word (R173). -/
  | illegalCommand
  /-- Code 2: a setter given a value outside 0..255 (R171). -/
  | outOfRange
  /-- Code 3: a Euclidean lookup with a length outside 1..8 (R172). -/
  | invariantViolation
  deriving DecidableEq, Repr

/-- A register file with one entry per channel (R14 to R16): exactly 3 entries. -/
structure PerChannel (α : Type) where
  ch0 : α
  ch1 : α
  ch2 : α
  deriving DecidableEq, Repr

/-- The contents of a table as (address, value) pairs. Canonical form: addresses strictly rising (`Memory.wf` in
Machine/Ops.lean). -/
abbrev Memory (w : Nat) := List (Nat × BitVec w)

/-- One act of the block's surroundings (R5, R73, R190, R51). -/
inductive HostInput where
  /-- The host hands over a command word (R61, R73). -/
  | command (w : CmdWord)
  /-- The host asserts `rst` (R190). -/
  | reset
  /-- The platform supplies one byte of the DrumMap (R51). -/
  | loadDrumMap (addr : Nat) (b : Byte)
  /-- The platform supplies one word of the EuclideanTable (R51). -/
  | loadEuclidean (n : Nat) (m : Mask)
  deriving DecidableEq, Repr

/-- The whole machine: the record of R10, the outputs of R73, and the model's own view of what lies outside the
block (R28). Plain data. -/
structure State where
  /-- `x` (R11). -/
  x : Byte
  /-- `y` (R12). -/
  y : Byte
  /-- `randomness` (R13). -/
  randomness : Byte
  /-- `density[3]` (R14). -/
  density : PerChannel Byte
  /-- `partPerturbation[3]` (R15). -/
  partPerturbation : PerChannel Byte
  /-- `eulideanStep[3]` (R16). -/
  eulideanStep : PerChannel (BitVec 5)
  /-- `step` (R17). -/
  step : BitVec 5
  /-- `pulse` (R18). -/
  pulse : BitVec 2
  /-- `outputMode` (R21). -/
  outputMode : OutputMode
  /-- `clockResolution` (R22). -/
  clockResolution : ClockResolution
  /-- `fault` (R24). -/
  fault : Bool
  /-- `faultCode` (R24). -/
  faultCode : BitVec 2
  /-- `rsp_valid_o` after the step: the step completed a command (R73). -/
  rspValid : Bool
  /-- `evt_valid_o` after the step: that command returned an event word (R73). -/
  evtValid : Bool
  /-- `evt_o`: the event word of the last completed `EVAL` (R73). -/
  evt : Byte
  /-- Supplied bytes of the DrumMap, by flat address (R42). The model's own: log 3. -/
  drumMap : Memory 8
  /-- Supplied words of the EuclideanTable, by word index (R45). The model's own: log 3. -/
  euclideanTable : Memory 32
  /-- An `EVAL` has been taken since reset, so the tables may not change (R57, R192). The model's own: log 4. -/
  tablesLocked : Bool
  /-- What the host will do next, in order (R5, R203). The model's own: log 1. -/
  inputs : List HostInput
  /-- What the random source will show on `rnd_i`, one word per re-roll (R31, R73). The model's own: log 5. -/
  rndIn : List RndWord
  /-- How many re-rolls there have been: the index of the next free draw (R31). The model's own: log 5. -/
  rolls : Nat
  deriving DecidableEq, Repr

/-- Stops of the model. None is a fault of the block: those are next states (R174). -/
inductive Fault where
  /-- The platform supplies a DrumMap byte at an address outside 0..2399 (R42). Raised by
  `Machine.loadDrumMapByte` only. Safe: that byte does not exist; that the model stops there is DESIGN CHOICE log 4. -/
  | noDrumMapByte (addr : Nat)
  /-- The platform supplies an EuclideanTable word at an index outside 0..255 (R44). Raised by
  `Machine.loadEuclideanWord` only. Safe: that word does not exist; that the model stops there is DESIGN CHOICE log 4. -/
  | noEuclideanWord (n : Nat)
  deriving DecidableEq, Repr

/-- Refusals of the model. -/
inductive Refusal where
  /-- An instruction with no meaning yet. Raised by no arm of `Machine.exec`. Safe. -/
  | notModelled (mnemonic : String)
  /-- The platform changes a table during a run: R57 gives such a run no meaning. Raised by
  `Machine.loadDrumMapByte` and `Machine.loadEuclideanWord` only. Safe. -/
  | tableChangedDuringRun
  deriving DecidableEq, Repr

/-- The machine right after reset (R29, R191), with nothing supplied and nothing asked of it yet. -/
def State.reset : State where
  x := 128#8
  y := 128#8
  randomness := 0#8
  density := ⟨128#8, 128#8, 128#8⟩
  partPerturbation := ⟨0#8, 0#8, 0#8⟩
  eulideanStep := ⟨0#5, 0#5, 0#5⟩
  step := 0#5
  pulse := 0#2
  outputMode := .grid
  clockResolution := .ppqn24
  fault := false
  faultCode := 0#2
  rspValid := false
  evtValid := false
  evt := 0#8
  drumMap := []
  euclideanTable := []
  tablesLocked := false
  inputs := []
  rndIn := []
  rolls := 0

end Sys2Proof.Machine
end

