-- ==== Sys2Proof/Machine/Ops.lean ====
section
/-! DEFINITION. The named operations on the state: register files, the two tables, the random draws, completing a
command, fault entry, reset, and the loading of a table. -/

namespace Sys2Proof.Machine

/-! ## Register files (R14 to R16) -/

/-- `file[c]` (R9). -/
def PerChannel.get {α : Type} (f : PerChannel α) (c : Channel) : α :=
  match c with
  | 0 => f.ch0
  | 1 => f.ch1
  | 2 => f.ch2

/-- The file whose entry `c` is `g c`. -/
def PerChannel.ofFn {α : Type} (g : Channel → α) : PerChannel α := ⟨g 0, g 1, g 2⟩

/-- `file[c] <- v` (R9): the two other entries keep their values. -/
def PerChannel.set {α : Type} (f : PerChannel α) (c : Channel) (v : α) : PerChannel α :=
  match c with
  | 0 => { f with ch0 := v }
  | 1 => { f with ch1 := v }
  | 2 => { f with ch2 := v }

/-! ## Tables (R40 to R46) -/

/-- DrumMap size in bytes (R4, R40). -/
abbrev drumMapSize : Nat := 2400

/-- EuclideanTable size in words (R4, R40). -/
abbrev euclideanSize : Nat := 256

/-- The entry listed at an address, if one is. -/
def Memory.read {w : Nat} : Memory w → Nat → Option (BitVec w)
  | [], _ => none
  | (b, v) :: rest, a => if a = b then some v else Memory.read rest a

/-- The list with `v` at address `a`, in canonical form if the list was. -/
def Memory.write {w : Nat} : Memory w → Nat → BitVec w → Memory w
  | [], a, v => [(a, v)]
  | (b, u) :: rest, a, v =>
    if a < b then (a, v) :: (b, u) :: rest
    else if a = b then (a, v) :: rest
    else (b, u) :: Memory.write rest a v

/-- All addresses are in `lo .. size - 1` and strictly rising. -/
def Memory.wfFrom {w : Nat} (size : Nat) : Nat → Memory w → Bool
  | _, [] => true
  | lo, (a, _) :: rest => decide (lo ≤ a) && decide (a < size) && Memory.wfFrom size (a + 1) rest

/-- The canonical form of a table of `size` entries. -/
def Memory.wf {w : Nat} (size : Nat) (m : Memory w) : Bool := Memory.wfFrom size 0 m

/-- The flat byte address of byte `k` of node `(i, j)` (R42). -/
def drumMapAddr (i j : Fin 5) (k : Fin 96) : Nat := (i.val * 5 + j.val) * 96 + k.val

/-- `DM(i, j, k)` (R9, R42): the supplied byte, or the parameter's where none is supplied. The three index types leave
no address outside the table (R43). -/
def State.DM (s : State) (i j : Fin 5) (k : Fin 96) : Byte :=
  (Memory.read s.drumMap (drumMapAddr i j k)).getD (Config.drumMapByte (drumMapAddr i j k))

/-- `EU(n)` (R9, R45): the supplied word, or the parameter's where none is supplied. -/
def State.EU (s : State) (n : Fin 256) : Mask :=
  (Memory.read s.euclideanTable n.val).getD (Config.euclideanWord n.val)

/-- Word `n` of an EuclideanTable kept in a byte memory: bytes `4n .. 4n+3`, least significant first (R48). -/
def euclideanWordOfBytes (byteAt : Nat → Byte) (n : Nat) : Mask :=
  byteAt (4 * n + 3) ++ byteAt (4 * n + 2) ++ byteAt (4 * n + 1) ++ byteAt (4 * n)

/-! ## Random draws (R31, R73) -/

/-- What `rnd_i` shows at the next re-roll: the next listed word, or a free one (R31, D11). -/
def State.rndNow (s : State) : RndWord :=
  match s.rndIn with
  | [] => Config.rndWord s.rolls
  | r :: _ => r

/-- The draw for channel `c`: `rnd_i[8c+7:8c]` (R73, R120). -/
def State.draw (s : State) (c : Channel) : Byte := s.rndNow.extractLsb' (8 * c.val) 8

/-- The random source after the three draws of one re-roll have been taken (R120). -/
def State.drawsTaken (s : State) : State := { s with rndIn := s.rndIn.tail, rolls := s.rolls + 1 }

/-! ## Completing a command (R69, R73) -/

/-- The command is complete and returns nothing: `rsp_valid_o` is 1, `evt_valid_o` is 0, `evt_o` keeps the word of the
last `EVAL` (R69, R73, D15; DEDUCED log 14, safe). -/
def State.ack (s : State) : State := { s with rspValid := true, evtValid := false }

/-- The command is complete and returns the event word `e` (R69, R73). -/
def State.respond (s : State) (e : Byte) : State := { s with rspValid := true, evtValid := true, evt := e }

/-- No command completes in this step: both strobes are 0 (R73; DEDUCED log 6, unsafe). -/
def State.quiet (s : State) : State := { s with rspValid := false, evtValid := false }

/-! ## Faults (R170 to R176) -/

/-- `faultCode` of a cause (R170). -/
def Cause.code : Cause → BitVec 2
  | .illegalCommand => 1#2
  | .outOfRange => 2#2
  | .invariantViolation => 3#2

/-- `raise`: fault entry (R174). Only the first fault sets the code; no event word is returned; the command is
complete. Nothing is saved and control goes nowhere. A next state, not a stop (DESIGN CHOICE log 9, safe). -/
def State.raise (s : State) (c : Cause) : State :=
  (if s.fault then s else { s with fault := true, faultCode := c.code }).ack

/-- A command whose effect on a machine without fault is `body`: while `fault == 1` it is taken and completed with no
effect (R176). -/
def command (body : State → State) (s : State) : Host.Outcome State Fault Refusal :=
  .next (if s.fault then s.ack else body s)

/-! ## Reset (R190) -/

/-- `rst` asserted: every field of the record and the outputs take their reset values; the tables, the random source
and what the host does next are untouched (R190). The platform may load tables again (R57; log 4, log 7). -/
def State.assertReset (s : State) : State :=
  { State.reset with
    drumMap := s.drumMap
    euclideanTable := s.euclideanTable
    inputs := s.inputs
    rndIn := s.rndIn
    rolls := s.rolls }

/-! ## Supplying the tables (R47, R51, R57, R192) -/

/-- The platform supplies one byte of the DrumMap: only an address of the table (R42), and only before the first
`EVAL` since reset (R57, R192; log 4). -/
def loadDrumMapByte (addr : Nat) (b : Byte) (s : State) : Host.Outcome State Fault Refusal :=
  if drumMapSize ≤ addr then .fault (.noDrumMapByte addr)
  else if s.tablesLocked then .refused .tableChangedDuringRun
  else .next { s.quiet with drumMap := Memory.write s.drumMap addr b }

/-- The platform supplies one word of the EuclideanTable, under the same two conditions. -/
def loadEuclideanWord (n : Nat) (m : Mask) (s : State) : Host.Outcome State Fault Refusal :=
  if euclideanSize ≤ n then .fault (.noEuclideanWord n)
  else if s.tablesLocked then .refused .tableChangedDuringRun
  else .next { s.quiet with euclideanTable := Memory.write s.euclideanTable n m }

end Sys2Proof.Machine
end

