-- ==== Sys2Proof/Machine/Operands.lean ====
section
/-! DEFINITION. Operand forms: the channel, resolution and mode codes of R62 and R64, and the status outputs of R73. -/

namespace Sys2Proof.Machine

/-- The channel a 2-bit `ch` field names; 3 names none (R62, R154). -/
def channelOf (ch : BitVec 2) : Option Channel :=
  if h : ch.toNat < 3 then some ⟨ch.toNat, h⟩ else none

/-- The resolution of a 2-bit code; 3 is reserved (R64). -/
def resolutionOf (r : BitVec 2) : Option ClockResolution :=
  match r.toNat with
  | 0 => some .ppqn4
  | 1 => some .ppqn8
  | 2 => some .ppqn24
  | _ => none

/-- The code of a resolution (R22, R64). -/
def ClockResolution.code : ClockResolution → BitVec 2
  | .ppqn4 => 0#2
  | .ppqn8 => 1#2
  | .ppqn24 => 2#2

/-- `pulsesPerStep`, written `pps`: a function of `clockResolution` (R23). -/
def ClockResolution.pps : ClockResolution → Nat
  | .ppqn4 => 1
  | .ppqn8 => 2
  | .ppqn24 => 3

/-- The mode of a 1-bit code (R64). -/
def modeOf (m : BitVec 1) : OutputMode := if m = 0#1 then .grid else .euclidean

/-- The code of a mode (R21, R64). -/
def OutputMode.code : OutputMode → BitVec 1
  | .grid => 0#1
  | .euclidean => 1#1

/-- The outputs of R73 as they stand between two steps. `cmd_ready_o` is 1: a step completes the command it takes
(R5; log 2). -/
structure Outputs where
  cmdReady : Bool
  rspValid : Bool
  evtValid : Bool
  evt : Byte
  fault : Bool
  faultCode : BitVec 2
  step : BitVec 5
  pulse : BitVec 2
  deriving DecidableEq, Repr

/-- The outputs a state shows (R30, R73, R182). -/
def State.outputs (s : State) : Outputs where
  cmdReady := true
  rspValid := s.rspValid
  evtValid := s.evtValid
  evt := s.evt
  fault := s.fault
  faultCode := s.faultCode
  step := s.step
  pulse := s.pulse

end Sys2Proof.Machine
end

