-- ==== Sys2Proof/Machine/ClockDivider.lean ====
section
/-! DEFINITION. The ClockDivider: `TICK` and `SETRES` (41_clock_divider.md). -/

namespace Sys2Proof.Machine

/-- The loop of `TICK` as R101 writes it: while `p >= pps`, subtract `pps` from `p` and advance `s` modulo 32. `fuel`
bounds the passes; `p` passes are always enough, since `pps >= 1` (R23). `tickClock` is its closed form; the statement
`TickRunsTheLoop` says that the two agree. -/
def rollOver (pps : Nat) : Nat → Nat → Nat → Nat × Nat
  | 0, p, s => (p, s)
  | fuel + 1, p, s => if pps ≤ p then rollOver pps fuel (p - pps) ((s + 1) % 32) else (p, s)

/-- `tickClock(n)` for any natural `n`, by the closed form of R102: the sum is exact, not cut to the register (R101,
D22; DESIGN CHOICE log 17, safe). -/
def State.tickClock (s : State) (n : Nat) : State :=
  let t := s.pulse.toNat + n
  let pps := s.clockResolution.pps
  { s with pulse := BitVec.ofNat 2 (t % pps), step := BitVec.ofNat 5 ((s.step.toNat + t / pps) % 32) }

/-- `TICK n` (R101). -/
def execTick (n : Byte) (s : State) : Host.Outcome State Fault Refusal :=
  command (fun s => (s.tickClock n.toNat).ack) s

/-- `SETRES r` (R104): writes `clockResolution` only; code 3 is `IllegalCommand` (R65; DEDUCED for the
term, log 10, safe). -/
def execSetres (r : BitVec 2) (s : State) : Host.Outcome State Fault Refusal :=
  command (fun s =>
    match resolutionOf r with
    | some res => { s with clockResolution := res }.ack
    | none => s.raise .illegalCommand) s

end Sys2Proof.Machine
end

