-- ==== Sys2Proof/Machine/Flags.lean ====
section
/-! DEFINITION. The bits of the event word (30_encoding.md R70, R71). The block has no condition codes (R25). -/

namespace Sys2Proof.Machine

/-- Bit `k` of an 8-bit word, set or clear. -/
def bitAt (b : Bool) (k : Nat) : Byte := if b then 1#8 <<< k else 0#8

/-- Trigger bits 0 to 2 (R70, R71). -/
def triggerBits (trig : PerChannel Bool) : Byte :=
  bitAt trig.ch0 0 ||| bitAt trig.ch1 1 ||| bitAt trig.ch2 2

/-- Accent bits 3 to 5: channel `c` at bit position `c+3` (R70, R125). -/
def accentBits (acc : PerChannel Bool) : Byte :=
  bitAt acc.ch0 3 ||| bitAt acc.ch1 4 ||| bitAt acc.ch2 5

/-- The Grid-mode word (R126): triggers, accents, bit 6 always set, bit 7 set when `step == 0`. -/
def gridModeWord (trig acc : PerChannel Bool) (step : BitVec 5) : Byte :=
  triggerBits trig ||| accentBits acc ||| 0x40#8 ||| bitAt (step == 0#5) 7

/-- The Euclidean-mode word (R71): triggers only. -/
def euclideanModeWord (trig : PerChannel Bool) : Byte := triggerBits trig

end Sys2Proof.Machine
end

