-- ==== Sys2Proof/Machine/Interpolator.lean ====
section
/-! DEFINITION. The Interpolator and `mix` (40_interpolator.md). `mix` follows the formula, not the "Boundary
exactness" property (90_conflicts.md C1). -/

namespace Sys2Proof.Machine

/-- The exact 16-bit sum of `mix` before the shift (R80): the weights add to 255. -/
def mixSum (lo hi balance : Byte) : Nat := hi.toNat * balance.toNat + lo.toNat * (255 - balance.toNat)

/-- `mix(lo, hi, balance)`: truncating, not rounded (R80). -/
def mix (lo hi balance : Byte) : Byte := BitVec.ofNat 8 (mixSum lo hi balance >>> 8)

/-- The cell index of a coordinate, `x >> 6`, in 0..3 (R82). -/
def cellIndex (x : Byte) : Fin 4 := ⟨x.toNat >>> 6, by omega⟩

/-- The near corner's index on an axis (R82, R83). -/
def nearNode (x : Byte) : Fin 5 := (cellIndex x).castSucc

/-- The far corner's index on an axis, `min(i + 1, 4)`; the clamp is kept as written (R83, C5). -/
def farNode (x : Byte) : Fin 5 := ⟨min ((cellIndex x).val + 1) 4, by omega⟩

/-- The byte offset in a node, `channel*32 + step` (R41, R84). -/
def nodeOffset (c : Channel) (step : BitVec 5) : Fin 96 := ⟨c.val * 32 + step.toNat, by omega⟩

/-- `(x & 0x3F) << 2`: a multiple of 4 in 0..252 (R85). -/
def balance (x : Byte) : Byte := (x &&& 0x3F#8) <<< 2

/-- The six steps over the four corner bytes (R85 to R87): two horizontal blends, then a vertical one. -/
def blend (a b c d : Byte) (x y : Byte) : Byte :=
  mix (mix a b (balance x)) (mix c d (balance x)) (balance y)

/-- `Interpolator(x, y, step, channel)` over a DrumMap (R87). -/
def interpolator (dm : Fin 5 → Fin 5 → Fin 96 → Byte) (x y : Byte) (step : BitVec 5) (c : Channel) : Byte :=
  let k := nodeOffset c step
  blend (dm (nearNode x) (nearNode y) k) (dm (farNode x) (nearNode y) k)
    (dm (nearNode x) (farNode y) k) (dm (farNode x) (farNode y) k) x y

end Sys2Proof.Machine
end

