-- ==== Sys2Proof/Machine/Comparator.lean ====
section
/-! DEFINITION. The threshold comparator and Grid-mode evaluation (42_threshold_comparator.md). -/

namespace Sys2Proof.Machine

/-- `scale(rand, randomness)`: truncating (R121). -/
def scale (rand randomness : Byte) : Byte := BitVec.ofNat 8 ((rand.toNat * randomness.toNat) >>> 8)

/-- The saturating add of R122, as its two branches are written. -/
def addPerturbation (level p : Byte) : Byte :=
  if level.toNat < 255 - p.toNat then BitVec.ofNat 8 (level.toNat + p.toNat) else 255#8

/-- `threshold = 255 - density[c]` (R123). -/
abbrev threshold (density : Byte) : Nat := 255 - density.toNat

/-- The fixed accent threshold (R4, R125). -/
abbrev accentThreshold : Nat := 192

/-- The trigger of one lane: strictly above the threshold, after the add (R124). -/
def laneTrigger (level p density : Byte) : Bool := decide (threshold density < (addPerturbation level p).toNat)

/-- The accent of one lane: a trigger that is also above 192 (R125). -/
def laneAccent (level p density : Byte) : Bool :=
  laneTrigger level p density && decide (accentThreshold < (addPerturbation level p).toNat)

/-- The level the Interpolator gives channel `c` (R127). -/
def State.level (s : State) (c : Channel) : Byte := interpolator s.DM s.x s.y s.step c

/-- The trigger of channel `c` in Grid mode (R124, R127). -/
def State.gridTrigger (s : State) (c : Channel) : Bool :=
  laneTrigger (s.level c) (s.partPerturbation.get c) (s.density.get c)

/-- The accent of channel `c` in Grid mode (R125, R127). -/
def State.gridAccent (s : State) (c : Channel) : Bool :=
  laneAccent (s.level c) (s.partPerturbation.get c) (s.density.get c)

/-- The perturbation re-roll: three draws, channel order 0, 1, 2 (R120). -/
def State.reroll (s : State) : State :=
  { s.drawsTaken with partPerturbation := PerChannel.ofFn fun c => scale (s.draw c) s.randomness }

/-- Step 1 of `evaluateDrums`: re-roll exactly when `step == 0` (R120). -/
def State.perturbed (s : State) : State := if s.step = 0#5 then s.reroll else s

/-- The event word of a Grid-mode evaluation whose re-roll is done (R126, R127). -/
def State.gridEvent (s : State) : Byte :=
  gridModeWord (PerChannel.ofFn s.gridTrigger) (PerChannel.ofFn s.gridAccent) s.step

/-- `evaluateDrums()` (R127): re-roll, then compose the word from the values just written. -/
def evaluateDrums (s : State) : State := s.perturbed.respond s.perturbed.gridEvent

end Sys2Proof.Machine
end

