-- ==== Sys2Proof/Machine/Euclidean.lean ====
section
/-! DEFINITION. Euclidean-mode evaluation (43_euclidean.md). The table index is flat (90_conflicts.md C2). -/

namespace Sys2Proof.Machine

/-- `length = (density[c] >> 5) + 1` (R140). -/
def euclideanLength (density : Byte) : Nat := (density.toNat >>> 5) + 1

/-- The pattern looked up for a length, `EU(length - 1)` (R141); none for a length outside 1..8 (R144, R172: never
corrected). -/
def patternOfLength (eu : Fin 256 → Mask) (length : Nat) : Option Mask :=
  if h : 1 ≤ length ∧ length ≤ 8 then some (eu ⟨length - 1, by omega⟩) else none

/-- The pattern of channel `c` (R140, R141). -/
def State.pattern (s : State) (c : Channel) : Option Mask :=
  patternOfLength s.EU (euclideanLength (s.density.get c))

/-- `(pattern >> cursor) & 1` (R142). -/
def patternBit (pattern : Mask) (cursor : BitVec 5) : Bool := pattern.getLsbD cursor.toNat

/-- The cursor advance of all three channels (R143). -/
def State.advanceCursors (s : State) : State :=
  { s with eulideanStep := PerChannel.ofFn fun c => s.eulideanStep.get c + 1#5 }

/-- `evaluateEuclidean()` (R144). The three length checks come first, so a fault would leave nothing written
(R174; the check is kept, DESIGN CHOICE log 12, safe). -/
def evaluateEuclidean (s : State) : State :=
  match s.pattern 0, s.pattern 1, s.pattern 2 with
  | some p0, some p1, some p2 =>
    s.advanceCursors.respond
      (euclideanModeWord ⟨patternBit p0 (s.eulideanStep.get 0), patternBit p1 (s.eulideanStep.get 1),
        patternBit p2 (s.eulideanStep.get 2)⟩)
  | _, _, _ => s.raise .invariantViolation

end Sys2Proof.Machine
end

