-- ==== Sys2Proof/Machine/Evaluate.lean ====
section
/-! DEFINITION. `EVAL` (44_dispatch_and_setters.md R150). -/

namespace Sys2Proof.Machine

/-- `EVAL` on a machine without fault (R150): 0 unless `pulse == 0`; else the mode's evaluation. -/
def State.evaluate (s : State) : State :=
  if s.pulse ≠ 0#2 then s.respond 0#8
  else
    match s.outputMode with
    | .grid => evaluateDrums s
    | .euclidean => evaluateEuclidean s

/-- `EVAL` (R150). -/
def execEval (s : State) : Host.Outcome State Fault Refusal := command State.evaluate s

end Sys2Proof.Machine
end

