-- ==== Sys2Proof/Machine/Setters.lean ====
section
/-! DEFINITION. The parameter setters (44_dispatch_and_setters.md R152 to R156): plain register writes. -/

namespace Sys2Proof.Machine

/-- `SETX v` (R152). -/
def execSetx (v : Byte) (s : State) : Host.Outcome State Fault Refusal :=
  command (fun s => { s with x := v }.ack) s

/-- `SETY v` (R153). -/
def execSety (v : Byte) (s : State) : Host.Outcome State Fault Refusal :=
  command (fun s => { s with y := v }.ack) s

/-- `SETDENS c, v` (R154): writes entry `c` only; `ch == 3` is `IllegalCommand` (DEDUCED for the term,
log 10, safe). -/
def execSetdens (ch : BitVec 2) (v : Byte) (s : State) : Host.Outcome State Fault Refusal :=
  command (fun s =>
    match channelOf ch with
    | some c => { s with density := s.density.set c v }.ack
    | none => s.raise .illegalCommand) s

/-- `SETRAND v` (R155): the perturbations are not recomputed. -/
def execSetrand (v : Byte) (s : State) : Host.Outcome State Fault Refusal :=
  command (fun s => { s with randomness := v }.ack) s

/-- `SETMODE m` (R156): writes `outputMode` only. -/
def execSetmode (m : BitVec 1) (s : State) : Host.Outcome State Fault Refusal :=
  command (fun s => { s with outputMode := modeOf m }.ack) s

end Sys2Proof.Machine
end

