-- ==== Sys2Proof/Syntax.lean ====
section
/-! DEFINITION. The eight commands of the opcode table (R63), with their operand fields as the table gives them. -/

namespace Sys2Proof

/-- The commands (R60, R63). Operand fields keep the table's widths; the two side conditions of R63 (`cc` and `rr`
are not 11) are in WellFormed. -/
inductive Instr where
  /-- `EVAL`: the document's `evaluate()` (R150). -/
  | eval
  /-- `TICK n`: the document's `tickClock(n)` (R101). -/
  | tick (n : Byte)
  /-- `SETX v` (R152). -/
  | setx (v : Byte)
  /-- `SETY v` (R153). -/
  | sety (v : Byte)
  /-- `SETDENS c, v`: `c` is the `ch` field (R154). -/
  | setdens (c : BitVec 2) (v : Byte)
  /-- `SETRAND v` (R155). -/
  | setrand (v : Byte)
  /-- `SETRES r`: `r` is `data[1:0]` (R104). -/
  | setres (r : BitVec 2)
  /-- `SETMODE m`: `m` is `data[0]` (R156). -/
  | setmode (m : BitVec 1)
  deriving DecidableEq, Repr

end Sys2Proof
end

