-- ==== Sys2Proof/Machine/Dispatch.lean ====
section
/-! DEFINITION. One arm per command (R63). -/

namespace Sys2Proof.Machine

def exec (i : Instr) (s : State) : Host.Outcome State Fault Refusal :=
  match i with
  | .eval => Sys2Proof.Machine.execEval s
  | .tick n => Sys2Proof.Machine.execTick n s
  | .setx v => Sys2Proof.Machine.execSetx v s
  | .sety v => Sys2Proof.Machine.execSety v s
  | .setdens c v => Sys2Proof.Machine.execSetdens c v s
  | .setrand v => Sys2Proof.Machine.execSetrand v s
  | .setres r => Sys2Proof.Machine.execSetres r s
  | .setmode m => Sys2Proof.Machine.execSetmode m s

end Sys2Proof.Machine
end

