-- ==== Sys2Proof/WellFormed.lean ====
section
/-! DEFINITION. The operand conditions that a mask cannot express (R63, R65 items 4 and 6). -/

namespace Sys2Proof

/-- A command the encoding can carry: `SETDENS` names one of the three channels and `SETRES` one of the three
resolutions (R63, R64). Every other operand value of the table's fields is legal. -/
def Instr.wellFormed : Instr → Bool
  | .eval => true
  | .tick _ => true
  | .setx _ => true
  | .sety _ => true
  | .setdens c _ => c != 3#2
  | .setrand _ => true
  | .setres r => r != 3#2
  | .setmode _ => true

/-- `Instr.wellFormed` as a proposition. -/
abbrev WellFormed (i : Instr) : Prop := i.wellFormed = true

end Sys2Proof
end

