-- ==== Sys2Proof/Decode.lean ====
section
/-! DEFINITION. Decoding and encoding of the 16-bit command word (30_encoding.md R61 to R66). -/

namespace Sys2Proof

/-- The seven classes of reserved command words (R65), in the spec's order. -/
inductive Reserved where
  /-- Item 1: `op` is 0x0 or 0x9..0xF. -/
  | opcode
  /-- Item 2: `z != 00`. -/
  | mustBeZero
  /-- Item 3: `ch != 00` in a command other than `SETDENS`. -/
  | channelGiven
  /-- Item 4: `SETDENS` with `ch == 3`. -/
  | noSuchChannel
  /-- Item 5: `EVAL` with `data != 0x00`. -/
  | evalData
  /-- Item 6: `SETRES` with `data[7:2] != 0` or `data[1:0] == 3`. -/
  | resolutionData
  /-- Item 7: `SETMODE` with `data[7:1] != 0`. -/
  | modeData
  deriving DecidableEq, Repr

/-- Bits `hi:lo` of a command word, `hi` being `lo + len - 1` (R7). -/
def cmdField (w : CmdWord) (lo len : Nat) : BitVec len := w.extractLsb' lo len

/-- `op = cmd[15:12]` (R61). -/
def opOf (w : CmdWord) : BitVec 4 := cmdField w 12 4

/-- `z = cmd[11:10]` (R61). -/
def zOf (w : CmdWord) : BitVec 2 := cmdField w 10 2

/-- `ch = cmd[9:8]` (R61). -/
def chOf (w : CmdWord) : BitVec 2 := cmdField w 8 2

/-- `data = cmd[7:0]` (R61). -/
def dataOf (w : CmdWord) : Byte := cmdField w 0 8

/-- The command of an operation code with its operand fields, the must-be-zero fields `z` and `ch` apart (R63, R65
items 1 and 4 to 7). -/
def decodeOperands (op : BitVec 4) (ch : BitVec 2) (data : Byte) : Except Reserved Instr :=
  match op.toNat with
  | 1 => if data = 0#8 then .ok .eval else .error .evalData
  | 2 => .ok (.tick data)
  | 3 => .ok (.setx data)
  | 4 => .ok (.sety data)
  | 5 => if ch = 3#2 then .error .noSuchChannel else .ok (.setdens ch data)
  | 6 => .ok (.setrand data)
  | 7 =>
    if data.extractLsb' 2 6 = 0#6 ∧ data.extractLsb' 0 2 ≠ 3#2 then .ok (.setres (data.extractLsb' 0 2))
    else .error .resolutionData
  | 8 => if data.extractLsb' 1 7 = 0#7 then .ok (.setmode (data.extractLsb' 0 1)) else .error .modeData
  | _ => .error .opcode

/-- Is this operation code one of the eight of R63? -/
def opcodeKnown (op : BitVec 4) : Bool := 1 ≤ op.toNat && op.toNat ≤ 8

/-- The command a word stands for, or the class of R65 it is reserved by. Where several classes hold, the first in
R65's order is named; nothing but the name depends on that order (DEDUCED, log 11, safe). -/
def decode (w : CmdWord) : Except Reserved Instr :=
  if !opcodeKnown (opOf w) then .error .opcode
  else if zOf w ≠ 0#2 then .error .mustBeZero
  else if opOf w ≠ 5#4 ∧ chOf w ≠ 0#2 then .error .channelGiven
  else decodeOperands (opOf w) (chOf w) (dataOf w)

/-- The word of format `C` with the given fields and `z = 00` (R61). -/
def formatC (op : BitVec 4) (ch : BitVec 2) (data : Byte) : CmdWord := op ++ 0#2 ++ ch ++ data

/-- The command word of a command, from the patterns of R63. -/
def encode : Instr → CmdWord
  | .eval => formatC 0x1#4 0#2 0#8
  | .tick n => formatC 0x2#4 0#2 n
  | .setx v => formatC 0x3#4 0#2 v
  | .sety v => formatC 0x4#4 0#2 v
  | .setdens c v => formatC 0x5#4 c v
  | .setrand v => formatC 0x6#4 0#2 v
  | .setres r => formatC 0x7#4 0#2 (0#6 ++ r)
  | .setmode m => formatC 0x8#4 0#2 (0#7 ++ m)

/-- What the decoder reads from an instruction of the opcode table: one command word, `nbits` of it given and the
bits above them 0. A number that does not fit one 16-bit word is no command (R61, R66; DESIGN CHOICE log 18,
safe). -/
def decodeTableWord (nbits w : Nat) : Option Instr :=
  if w % 2 ^ nbits < 2 ^ 16 then
    match decode (BitVec.ofNat 16 (w % 2 ^ nbits)) with
    | .ok i => some i
    | .error _ => none
  else none

end Sys2Proof
end

