-- ==== Sys2Proof/Machine/Port.lean ====
section
/-! DEFINITION. The command port: taking the host's next input (30_encoding.md R73, 70_reset_and_hazards.md R190). -/

namespace Sys2Proof.Machine

/-- What taking an input leaves to do. -/
inductive Taken where
  /-- A legal command was decoded; it is to be run on this state. -/
  | run (i : Instr) (s : State)
  /-- The input is dealt with. -/
  | done (o : Host.Outcome State Fault Refusal)
  deriving Repr

/-- Is this the command that reads the tables (R53)? -/
def readsTables (i : Instr) : Bool := i == .eval

/-- A legal command is taken: it is no longer waiting, and the first `EVAL` since reset fixes the tables (R57, R192;
log 4). -/
def State.taking (s : State) (i : Instr) (rest : List HostInput) : State :=
  { s with inputs := rest, tablesLocked := s.tablesLocked || readsTables i }

/-- Take a command word: decode it; a reserved word is `IllegalCommand` before anything else (R66, R173, R175). -/
def takeCommand (w : CmdWord) (rest : List HostInput) (s : State) : Taken :=
  match decode w with
  | .ok i => .run i (s.taking i rest)
  | .error _ => .done (.next ({ s with inputs := rest }.raise .illegalCommand))

/-- Take the host's next input. With none the block idles and keeps its state (R183, R203). -/
def takeInput (s : State) : Taken :=
  match s.inputs with
  | [] => .done (.next s.quiet)
  | .command w :: rest => takeCommand w rest s
  | .reset :: rest => .done (.next { s with inputs := rest }.assertReset)
  | .loadDrumMap a b :: rest => .done (loadDrumMapByte a b { s with inputs := rest })
  | .loadEuclidean n m :: rest => .done (loadEuclideanWord n m { s with inputs := rest })

/-- The host offers a command word before everything else it will do. -/
def State.offer (s : State) (w : CmdWord) : State := { s with inputs := .command w :: s.inputs }

end Sys2Proof.Machine
end

