-- ==== Sys2Proof/Machine/Step.lean ====
section
/-! DEFINITION. One step: the next input of the host is taken and completed (00_scope.md R5). -/

namespace Sys2Proof.Machine

/-- One step of the machine. -/
def step (s : State) : Host.Outcome State Fault Refusal :=
  match takeInput s with
  | .run i t => exec i t
  | .done o => o

/-- The state with a table word offered at the command port, so that the next step takes it. The block fetches
nothing (R20): this stands for the host issuing the command (log 1). -/
def State.withFetchWord (s : State) (nbits w : Nat) : State := s.offer (BitVec.ofNat 16 (w % 2 ^ nbits))

end Sys2Proof.Machine
end

