-- ==== Sys2Proof/Machine/Wrapper.lean ====
section
/-! DEFINITION. A wrapper whose setters take an integer (44_dispatch_and_setters.md R158, 60_exceptions.md R171): the
only place where `OutOfRange` arises. No step of the block calls it (log 13). -/

namespace Sys2Proof.Machine

/-- A setter of an 8-bit parameter given an integer: in 0..255 it is the command; outside, it is rejected with
`OutOfRange`, never clamped, never wrapped (R158). While `fault == 1` it has no effect (R176). -/
def rangeChecked (cmd : Byte → State → Host.Outcome State Fault Refusal) (v : Int) (s : State) :
    Host.Outcome State Fault Refusal :=
  if 0 ≤ v ∧ v ≤ 255 then cmd (BitVec.ofInt 8 v) s else .next (s.raise .outOfRange)

/-- `setX(v)` (R158). -/
def wideSetX (v : Int) (s : State) : Host.Outcome State Fault Refusal := rangeChecked execSetx v s

/-- `setY(v)` (R158). -/
def wideSetY (v : Int) (s : State) : Host.Outcome State Fault Refusal := rangeChecked execSety v s

/-- `setDensity(c, v)` (R158). -/
def wideSetDensity (c : Channel) (v : Int) (s : State) : Host.Outcome State Fault Refusal :=
  rangeChecked (execSetdens (BitVec.ofNat 2 c.val)) v s

/-- `setRandomness(v)` (R158). -/
def wideSetRandomness (v : Int) (s : State) : Host.Outcome State Fault Refusal := rangeChecked execSetrand v s

/-- `tickClock(n)` for a natural `n` beyond the command's operand field (R101, D7). -/
def wideTick (n : Nat) (s : State) : Host.Outcome State Fault Refusal :=
  command (fun s => (s.tickClock n).ack) s

end Sys2Proof.Machine
end

