-- ==== Sys2Proof/Machine/Run.lean ====
section
/-! DEFINITION. Runs and their observation (70_reset_and_hazards.md R203). -/

namespace Sys2Proof.Machine

/-- The same command `k` times, with nothing between, stopping at the first stop. -/
def execTimes : Nat → Instr → State → Host.Outcome State Fault Refusal
  | 0, _, s => .next s
  | k + 1, i, s =>
    match exec i s with
    | .next t => execTimes k i t
    | .fault r => .fault r
    | .refused r => .refused r

/-- `k` steps, stopping at the first stop. -/
def stepTimes : Nat → State → Host.Outcome State Fault Refusal
  | 0, s => .next s
  | k + 1, s =>
    match step s with
    | .next t => stepTimes k t
    | .fault r => .fault r
    | .refused r => .refused r

/-- A machine about to run a finite list of commands (R203). -/
def State.withCommands (s : State) (cmds : List CmdWord) : State :=
  { s with inputs := cmds.map HostInput.command }

/-- A run begins with a reset, after which the host issues its commands (R203). The tables and the random source are
those of `s` (R190). -/
def State.beginRun (s : State) (cmds : List CmdWord) : State := s.assertReset.withCommands cmds

/-- The event word the last step returned, with the position `pos` of its `EVAL`; nothing if it returned none. -/
def State.returned (s : State) (pos : Nat) : List (Nat × Byte) := if s.evtValid then [(pos, s.evt)] else []

/-- The event words returned in the next `k` steps, in order, each with the position of its `EVAL` in the command list
counted from `pos` (R203; log 19). -/
def returnedEvents : Nat → Nat → State → List (Nat × Byte)
  | 0, _, _ => []
  | k + 1, pos, s =>
    match step s with
    | .next t => t.returned pos ++ returnedEvents k (if t.rspValid then pos + 1 else pos) t
    | .fault _ => []
    | .refused _ => []

/-- The state record `PatternGeneratorState`, with the two status fields (R10 to R24, R29): what of the machine lasts
beyond a run. -/
structure Record where
  x : Byte
  y : Byte
  randomness : Byte
  density : PerChannel Byte
  partPerturbation : PerChannel Byte
  eulideanStep : PerChannel (BitVec 5)
  step : BitVec 5
  pulse : BitVec 2
  outputMode : OutputMode
  clockResolution : ClockResolution
  fault : Bool
  faultCode : BitVec 2
  deriving DecidableEq, Repr

/-- The record of a state (R10, R29). -/
def State.record (s : State) : Record where
  x := s.x
  y := s.y
  randomness := s.randomness
  density := s.density
  partPerturbation := s.partPerturbation
  eulideanStep := s.eulideanStep
  step := s.step
  pulse := s.pulse
  outputMode := s.outputMode
  clockResolution := s.clockResolution
  fault := s.fault
  faultCode := s.faultCode

/-- The observation of a run (R203): the final state record, and the event words in order with their positions. The
first command of the list has position 0 (DESIGN CHOICE log 19, unsafe: R203 does not say where counting starts). -/
structure Observation where
  final : Record
  events : List (Nat × Byte)
  deriving DecidableEq, Repr

/-- A good run: it has raised no fault (R203, R176; `fault` stays set once it is). -/
abbrev Observation.Good (o : Observation) : Prop := o.final.fault = false

/-- The observation of the run of a command list, issued after a reset and ended when the last command has completed
(R203). Positions count from 0 (DESIGN CHOICE log 19, unsafe). None only if a step stops, which a run of commands never
does. -/
def observe (s : State) (cmds : List CmdWord) : Option Observation :=
  match stepTimes cmds.length (s.beginRun cmds) with
  | .next t => some ⟨t.record, returnedEvents cmds.length 0 (s.beginRun cmds)⟩
  | .fault _ => none
  | .refused _ => none

end Sys2Proof.Machine
end

