-- ==== Sys2Proof/Safety.lean ====
section
/-! DEFINITION. What holds of every state a run reaches, and what a good run is. -/

namespace Sys2Proof.Machine

/-- A good state: no fault has occurred since reset (R24, R203). -/
abbrev State.Good (s : State) : Prop := s.fault = false

/-- What the spec says of every reachable state: `pulse` is never 3 (R107); `faultCode` is 0 without a fault and, since
a command word can raise nothing else, 1 with one (R24, R170 to R172); each perturbation is at most 254 (R15); the
three cursors are equal (R143); `evt_valid_o` comes with `rsp_valid_o` (R73); the tables are in canonical form. -/
structure State.Inv (s : State) : Prop where
  pulse_le : s.pulse.toNat ≤ 2
  fault_code : s.faultCode = if s.fault then 1#2 else 0#2
  perturbation_le : ∀ c, (s.partPerturbation.get c).toNat ≤ 254
  cursors_equal : ∀ c, s.eulideanStep.get c = s.eulideanStep.get 0
  evt_with_rsp : s.evtValid = true → s.rspValid = true
  drumMap_wf : Memory.wf drumMapSize s.drumMap = true
  euclidean_wf : Memory.wf euclideanSize s.euclideanTable = true

/-- The seven items of R65, over the fields of R61 as numbers. -/
abbrev ReservedFields (op z ch data : Nat) : Prop :=
  (op = 0 ∨ 9 ≤ op) ∨ z ≠ 0 ∨ (ch ≠ 0 ∧ op ≠ 5) ∨ (op = 5 ∧ ch = 3) ∨ (op = 1 ∧ data ≠ 0) ∨
    (op = 7 ∧ (data / 4 ≠ 0 ∨ data % 4 = 3)) ∨ (op = 8 ∧ data / 2 ≠ 0)

/-- The reserved command words (R65). -/
abbrev ReservedWord (w : CmdWord) : Prop :=
  ReservedFields (w.toNat / 4096) (w.toNat / 1024 % 4) (w.toNat / 256 % 4) (w.toNat % 256)

end Sys2Proof.Machine
end

