-- ==== Sys2Proof/Certificates/Slice0/Obligations.lean ====
section
/-! DEFINITION. The statements for the provers. Each docstring names the rule or section of spec/ it formalises. -/

open Sys2Proof Sys2Proof.Machine

/-! ### Reset, steps and the invariant -/

/-- 70_reset_and_hazards.md section 1 (R191): the state after reset, and the first `EVAL` from it. That the perturbations
and cursors are 0 is the spec's own decision D10 (log 8). The counter `rolls` is the model's own (log 5). -/
def Obligations.ResetLeavesDefaults : Prop :=
  State.reset.x = 128#8 ∧ State.reset.y = 128#8 ∧ (∀ c, State.reset.density.get c = 128#8) ∧
  State.reset.randomness = 0#8 ∧ State.reset.step = 0#5 ∧ State.reset.pulse = 0#2 ∧
  State.reset.outputMode = .grid ∧ State.reset.clockResolution = .ppqn24 ∧ State.reset.clockResolution.pps = 3 ∧
  (∀ c, State.reset.eulideanStep.get c = 0#5) ∧ (∀ c, State.reset.partPerturbation.get c = 0#8) ∧
  State.reset.fault = false ∧ State.reset.faultCode = 0#2 ∧
  ∃ t, exec .eval State.reset = .next t ∧ t.evtValid = true ∧ t.evt.getLsbD 6 = true ∧ t.evt.getLsbD 7 = true ∧
    t.rolls = State.reset.rolls + 1 ∧ ∀ c, t.partPerturbation.get c = 0#8

/-- 70_reset_and_hazards.md section 1 (R190): reset restores every field of the record and `evt_o`, and touches neither
the tables nor the random source. That the strobes fall and that tables may be loaded again is the model's choice
(log 6, log 7). -/
def Obligations.ResetInputRestoresDefaults : Prop :=
  ∀ (s : State) (rest : List HostInput), s.inputs = .reset :: rest →
    step s = .next { State.reset with
      inputs := rest, drumMap := s.drumMap, euclideanTable := s.euclideanTable, rndIn := s.rndIn, rolls := s.rolls }

/-- The invariant of Safety.lean holds after reset: 10_state.md sections 3 to 5 and 41_clock_divider.md section 2 (R15,
R24, R107, R143, by the spec's own inferences). -/
def Obligations.ResetMeetsInvariant : Prop := State.reset.Inv

/-- Every step keeps the invariant of Safety.lean (R15, R24, R107, R143, R170 to R172, by the spec's own inferences),
whatever the host does. -/
def Obligations.StepKeepsInvariant : Prop :=
  ∀ s t : State, s.Inv → step s = .next t → t.Inv

/-- 00_scope.md section 5 and 30_encoding.md section 4 (R5, R66): a step takes the host's next command word, decodes it and runs it. That the first `EVAL` fixes the
tables is the model's choice (log 4). -/
def Obligations.StepRunsDecodedCommand : Prop :=
  ∀ (s : State) (w : CmdWord) (rest : List HostInput) (i : Instr),
    s.inputs = .command w :: rest → decode w = .ok i →
    step s = exec i { s with inputs := rest, tablesLocked := s.tablesLocked || (i == .eval) }

/-- 60_exceptions.md section 5 (R183): with no command the block keeps all of its state. That the strobes are 0 then is
the model's choice (log 6). -/
def Obligations.IdleStepKeepsState : Prop :=
  ∀ s : State, s.inputs = [] → step s = .next { s with rspValid := false, evtValid := false }

/-- 00_scope.md section 5 (R5): every command completes with a next state, in every state and for every operand, and says so on
`rsp_valid_o`. -/
def Obligations.EveryCommandCompletes : Prop :=
  ∀ (i : Instr) (s : State), ∃ t, exec i s = .next t ∧ t.rspValid = true

/-! ### Encoding -/

/-- 30_encoding.md section 3 (R63): decoding the word of a well-formed command gives that command, for every operand value. -/
def Obligations.DecodeOfEncode : Prop :=
  ∀ i : Instr, WellFormed i → decode (encode i) = .ok i

/-- 30_encoding.md section 3 (R63): a word that decodes is the word of the one command it decodes to, and that command is well-formed. -/
def Obligations.EncodeOfDecode : Prop :=
  ∀ (w : CmdWord) (i : Instr), decode w = .ok i → encode i = w ∧ WellFormed i

/-- 30_encoding.md section 4 (R65): the words the decoder refuses are exactly the seven classes. -/
def Obligations.ReservedWordsAreRefused : Prop :=
  ∀ w : CmdWord, (∃ r, decode w = .error r) ↔ ReservedWord w

/-- Words written out from the patterns of R63, and reserved neighbours of them (R65). -/
def Obligations.SampleWordsDecode : Prop :=
  decode 0b0001000000000000#16 = .ok .eval ∧
  decode 0b0010000011111111#16 = .ok (.tick 255#8) ∧
  decode 0b0011000010000000#16 = .ok (.setx 128#8) ∧
  decode 0b0100000001000000#16 = .ok (.sety 64#8) ∧
  decode 0b0101001011111111#16 = .ok (.setdens 2#2 255#8) ∧
  decode 0b0110000010000000#16 = .ok (.setrand 128#8) ∧
  decode 0b0111000000000010#16 = .ok (.setres 2#2) ∧
  decode 0b1000000000000001#16 = .ok (.setmode 1#1) ∧
  decode 0x5300#16 = .error .noSuchChannel ∧ decode 0x7003#16 = .error .resolutionData ∧
  decode 0x0000#16 = .error .opcode ∧ decode 0xFFFF#16 = .error .opcode

/-- 30_encoding.md section 3 (R64) and 10_state.md section 5 (R23): the codes of the two enumerations, and `pps`. -/
def Obligations.ResolutionAndModeCodes : Prop :=
  resolutionOf 0#2 = some .ppqn4 ∧ resolutionOf 1#2 = some .ppqn8 ∧ resolutionOf 2#2 = some .ppqn24 ∧
  resolutionOf 3#2 = none ∧ modeOf 0#1 = .grid ∧ modeOf 1#1 = .euclidean ∧
  ClockResolution.ppqn4.pps = 1 ∧ ClockResolution.ppqn8.pps = 2 ∧ ClockResolution.ppqn24.pps = 3 ∧
  (∀ r : ClockResolution, resolutionOf r.code = some r ∧ 1 ≤ r.pps) ∧ (∀ m : OutputMode, modeOf m.code = m)

/-! ### Faults -/

/-- 60_exceptions.md sections 1 and 2 (R173, R174): a reserved word is taken as `IllegalCommand` and changes nothing
else. -/
def Obligations.ReservedWordIsIllegalCommand : Prop :=
  ∀ (s : State) (w : CmdWord) (rest : List HostInput),
    s.fault = false → s.inputs = .command w :: rest → ReservedWord w →
    step s = .next { s with inputs := rest, fault := true, faultCode := 1#2, rspValid := true, evtValid := false }

/-- 60_exceptions.md section 2 (R176): while `fault == 1` every command word, legal or reserved, is taken and completed with no effect, and only
reset clears `fault`. `tablesLocked` is the model's own field (log 4). That an `EVAL` taken then leaves `evt_valid_o` at
0 and `evt_o` as it was is the model's choice between R176 and R73 (log 14). -/
def Obligations.FaultedMachineIgnoresCommands : Prop :=
  ∀ s : State, s.fault = true →
    (∀ (w : CmdWord) (rest : List HostInput), s.inputs = .command w :: rest →
      ∃ t, step s = .next t ∧
        t = { s with inputs := rest, rspValid := true, evtValid := false, tablesLocked := t.tablesLocked }) ∧
    (∀ t, step s = .next t → t.fault = false → ∃ rest, s.inputs = .reset :: rest)

/-- 60_exceptions.md section 2 (R174): fault entry sets the two fields only if no fault came before; it writes nothing else. -/
def Obligations.FaultEntryKeepsFirstCode : Prop :=
  ∀ (s : State) (c : Cause),
    (s.fault = false →
      s.raise c = { s with fault := true, faultCode := c.code, rspValid := true, evtValid := false }) ∧
    (s.fault = true → s.raise c = { s with rspValid := true, evtValid := false }) ∧
    (s.raise c).outputs.fault = true ∧ (s.raise c).outputs.evtValid = false ∧
    (s.raise c).outputs.faultCode = (s.raise c).faultCode

/-- 44_dispatch_and_setters.md section 2 and 60_exceptions.md section 1 (R158, R171): setters that take an integer
reject what lies outside 0..255 and are the commands inside it. -/
def Obligations.WideSettersReject : Prop :=
  ∀ (s : State) (v : Int) (c : Channel), s.fault = false →
    (¬(0 ≤ v ∧ v ≤ 255) →
      ∀ o ∈ [wideSetX v s, wideSetY v s, wideSetDensity c v s, wideSetRandomness v s],
        o = .next { s with fault := true, faultCode := 2#2, rspValid := true, evtValid := false }) ∧
    (0 ≤ v ∧ v ≤ 255 →
      wideSetX v s = exec (.setx (BitVec.ofInt 8 v)) s ∧ wideSetY v s = exec (.sety (BitVec.ofInt 8 v)) s ∧
      wideSetDensity c v s = exec (.setdens (BitVec.ofNat 2 c.val) (BitVec.ofInt 8 v)) s ∧
      wideSetRandomness v s = exec (.setrand (BitVec.ofInt 8 v)) s)

/-! ### The setters: result and frame -/

/-- R152: `SETX v` writes `x` and nothing else; with `SETX 255` the next evaluation uses cell column 3 and balance
252. -/
def Obligations.SetxWritesX : Prop :=
  (∀ (s : State) (v : Byte), s.fault = false →
    exec (.setx v) s = .next { s with x := v, rspValid := true, evtValid := false }) ∧
  decode 0x30FF#16 = .ok (.setx 255#8) ∧ (cellIndex 255#8).val = 3 ∧ balance 255#8 = 252#8

/-- R153: `SETY v` writes `y` and nothing else; with `SETY 0` the next evaluation uses cell row 0 and balance 0. -/
def Obligations.SetyWritesY : Prop :=
  (∀ (s : State) (v : Byte), s.fault = false →
    exec (.sety v) s = .next { s with y := v, rspValid := true, evtValid := false }) ∧
  decode 0x4000#16 = .ok (.sety 0#8) ∧ (cellIndex 0#8).val = 0 ∧ balance 0#8 = 0#8

/-- 44_dispatch_and_setters.md section 2 (R154): `SETDENS c, v` writes entry `c` of `density` and nothing else; channel 3 is `IllegalCommand`. -/
def Obligations.SetdensWritesOneEntry : Prop :=
  (∀ (s : State) (c : Channel) (v : Byte), s.fault = false →
    ∃ d, exec (.setdens (BitVec.ofNat 2 c.val) v) s = .next { s with density := d, rspValid := true, evtValid := false } ∧
      d.get c = v ∧ ∀ e, e ≠ c → d.get e = s.density.get e) ∧
  (∀ (s : State) (v : Byte), s.fault = false →
    exec (.setdens 3#2 v) s =
      .next { s with fault := true, faultCode := 1#2, rspValid := true, evtValid := false }) ∧
  (∀ v : Byte, decode (0x53#8 ++ v) = .error .noSuchChannel) ∧
  decode 0x52FF#16 = .ok (.setdens 2#2 255#8) ∧ threshold 255#8 = 0 ∧ euclideanLength 255#8 = 8

/-- 44_dispatch_and_setters.md section 2 (R155): `SETRAND v` writes `randomness` and nothing else; with
`randomness == 0` a re-roll stores 0 in all three perturbations. -/
def Obligations.SetrandWritesRandomness : Prop :=
  (∀ (s : State) (v : Byte), s.fault = false →
    exec (.setrand v) s = .next { s with randomness := v, rspValid := true, evtValid := false }) ∧
  (∀ s : State, s.randomness = 0#8 → ∀ c, s.reroll.partPerturbation.get c = 0#8)

/-- 41_clock_divider.md section 2 (R104): `SETRES r` writes `clockResolution` and nothing else; code 3 is
`IllegalCommand`. -/
def Obligations.SetresWritesResolution : Prop :=
  ∀ s : State, s.fault = false →
    (∀ res : ClockResolution,
      exec (.setres res.code) s = .next { s with clockResolution := res, rspValid := true, evtValid := false }) ∧
    exec (.setres 3#2) s = .next { s with fault := true, faultCode := 1#2, rspValid := true, evtValid := false }

/-- 44_dispatch_and_setters.md section 2 (R156): `SETMODE m` writes `outputMode` and nothing else; other `data` bits make a reserved word; after
`SETMODE 1` an `EVAL` at `pulse == 0` returns a word in 0x00..0x07. -/
def Obligations.SetmodeWritesMode : Prop :=
  (∀ (s : State) (m : OutputMode), s.fault = false →
    exec (.setmode m.code) s = .next { s with outputMode := m, rspValid := true, evtValid := false }) ∧
  (∀ d : Byte, 2 ≤ d.toNat → decode (0x80#8 ++ d) = .error .modeData) ∧
  decode 0x8001#16 = .ok (.setmode 1#1) ∧
  (∀ s : State, s.fault = false → s.pulse = 0#2 →
    ∃ a t, exec (.setmode 1#1) s = .next a ∧ exec .eval a = .next t ∧ t.evtValid = true ∧ t.evt.toNat ≤ 7)

/-- 44_dispatch_and_setters.md section 2 (R157): a legal setter other than `SETRES` and a `TICK` may be swapped. -/
def Obligations.SettersCommuteWithTick : Prop :=
  ∀ (s : State) (n : Byte) (i : Instr), WellFormed i → i ≠ .eval → (∀ k, i ≠ .tick k) → (∀ r, i ≠ .setres r) →
    ∃ a b, exec i s = .next a ∧ exec (.tick n) s = .next b ∧ exec (.tick n) a = exec i b

/-! ### The ClockDivider -/

/-- 41_clock_divider.md section 2 (R101, R102): `TICK n` is the loop of R101 run to its end on the exact sum, which
takes `t div pps` passes and no fewer, and it writes nothing else. The exact sum is the spec's own decision D22. -/
def Obligations.TickRunsTheLoop : Prop :=
  (∀ (s : State) (n : Byte), s.fault = false →
    ∀ fuel, (s.pulse.toNat + n.toNat) / s.clockResolution.pps ≤ fuel →
      let r := rollOver s.clockResolution.pps fuel (s.pulse.toNat + n.toNat) s.step.toNat
      r.1 < s.clockResolution.pps ∧
      exec (.tick n) s = .next { s with
        pulse := BitVec.ofNat 2 r.1, step := BitVec.ofNat 5 r.2, rspValid := true, evtValid := false }) ∧
  (∀ pps t p : Nat, 1 ≤ pps → p < 32 →
    (∀ fuel, t / pps ≤ fuel → rollOver pps fuel t p = (t % pps, (p + t / pps) % 32)) ∧
    (∀ fuel, fuel < t / pps → pps ≤ (rollOver pps fuel t p).1))

/-- R103: after every `TICK`, whatever the state before it, `pulse` is below `pps`. -/
def Obligations.TickLeavesPulseBelowPps : Prop :=
  ∀ (s : State) (n : Byte), s.fault = false →
    ∃ t, exec (.tick n) s = .next t ∧ t.clockResolution = s.clockResolution ∧ t.pulse.toNat < t.clockResolution.pps

/-- 41_clock_divider.md section 2 (R106 items 1 to 4): `TICK 0`, a whole cycle, and `TICK 255` at `pps == 1`. -/
def Obligations.TickCornerCases : Prop :=
  ∀ s : State, s.fault = false →
    (s.pulse.toNat < s.clockResolution.pps →
      exec (.tick 0#8) s = .next { s with rspValid := true, evtValid := false }) ∧
    (s.clockResolution.pps ≤ s.pulse.toNat → ∃ t, exec (.tick 0#8) s = .next t ∧
      t.pulse.toNat = s.pulse.toNat % s.clockResolution.pps ∧
      t.step.toNat = (s.step.toNat + s.pulse.toNat / s.clockResolution.pps) % 32) ∧
    (s.pulse.toNat < s.clockResolution.pps → ∀ n : Byte, n.toNat = 32 * s.clockResolution.pps →
      exec (.tick n) s = .next { s with rspValid := true, evtValid := false }) ∧
    (s.clockResolution = .ppqn4 → ∃ t, exec (.tick 255#8) s = .next t ∧ t.pulse = 0#2 ∧
      t.step.toNat = (s.step.toNat + 255 + s.pulse.toNat) % 32)

/-- 41_clock_divider.md section 2 (R101, R102): two `TICK`s are one `TICK` of the sum, where the sum fits the operand. -/
def Obligations.TicksAddUp : Prop :=
  ∀ (s : State) (a b n : Byte), a.toNat + b.toNat = n.toNat →
    ∃ t, exec (.tick a) s = .next t ∧ exec (.tick b) t = exec (.tick n) s

/-- 41_clock_divider.md section 2 (R108): the position after `m` calls of `TICK 1` from `(0, 0)`, and the length of a cycle. -/
def Obligations.RepeatedTickPosition : Prop :=
  ∀ s : State, s.fault = false → s.pulse = 0#2 → s.step = 0#5 →
    (∀ m : Nat, ∃ t, execTimes m (.tick 1#8) s = .next t ∧ t.pulse.toNat = m % s.clockResolution.pps ∧
      t.step.toNat = m / s.clockResolution.pps % 32) ∧
    (∃ t, execTimes (32 * s.clockResolution.pps) (.tick 1#8) s = .next t ∧ t.pulse = 0#2 ∧ t.step = 0#5) ∧
    (s.clockResolution = .ppqn4 → 32 * s.clockResolution.pps = 32) ∧
    (s.clockResolution = .ppqn8 → 32 * s.clockResolution.pps = 64) ∧
    (s.clockResolution = .ppqn24 → 32 * s.clockResolution.pps = 96)

/-- 41_clock_divider.md section 2 (R105): `SETRES` never touches `pulse`, and what the next `TICK`s then do. -/
def Obligations.ResolutionChangeMisaligns : Prop :=
  ∀ s : State, s.fault = false →
    (∀ r t, exec (.setres r) s = .next t → t.pulse = s.pulse ∧ t.step = s.step) ∧
    (s.pulse = 2#2 → ∃ a e b, exec (.setres 0#2) s = .next a ∧ exec .eval a = .next e ∧ e.evt = 0#8 ∧
      e.evtValid = true ∧ exec (.tick 1#8) a = .next b ∧ b.pulse = 0#2 ∧ b.step = s.step + 3#5) ∧
    (s.pulse = 2#2 → ∃ a b, exec (.setres 1#2) s = .next a ∧ exec (.tick 1#8) a = .next b ∧ b.pulse = 1#2 ∧
      b.step = s.step + 1#5) ∧
    (s.pulse = 1#2 → ∃ a e b, exec (.setres 0#2) s = .next a ∧ exec .eval a = .next e ∧ e.evt = 0#8 ∧
      e.evtValid = true ∧ exec (.tick 1#8) e = .next b ∧ b.pulse = 0#2 ∧ b.step = s.step + 2#5) ∧
    (s.pulse = 0#2 → ∃ a b c d, exec (.setres 2#2) s = .next a ∧ exec (.tick 1#8) a = .next b ∧
      b.pulse = 1#2 ∧ b.step = s.step ∧ exec (.tick 1#8) b = .next c ∧ c.pulse = 2#2 ∧ c.step = s.step ∧
      exec (.tick 1#8) c = .next d ∧ d.pulse = 0#2 ∧ d.step = s.step + 1#5) ∧
    (s.pulse = 1#2 → ∃ a b c, exec (.setres 2#2) s = .next a ∧ exec (.tick 1#8) a = .next b ∧
      b.pulse = 2#2 ∧ b.step = s.step ∧ exec (.tick 1#8) b = .next c ∧ c.pulse = 0#2 ∧ c.step = s.step + 1#5)

/-! ### `mix` and the Interpolator -/

/-- R80: `mix` is the truncated exact sum, at most 254. -/
def Obligations.MixFormula : Prop :=
  (∀ lo hi b : Byte,
    hi.toNat * b.toNat + lo.toNat * (255 - b.toNat) ≤ 65025 ∧
    (mix lo hi b).toNat = (hi.toNat * b.toNat + lo.toNat * (255 - b.toNat)) / 256 ∧ (mix lo hi b).toNat ≤ 254) ∧
  mix 100#8 200#8 128#8 = 149#8

/-- 40_interpolator.md section 1 (R81): the seven properties the spec derives of `mix`. -/
def Obligations.MixProperties : Prop :=
  (∀ lo hi b : Byte, mixSum lo hi b ≤ 65025) ∧
  (∀ lo hi b : Byte, (mix lo hi b).toNat ≤ 254) ∧
  (∀ v b : Byte, (mix v v b).toNat = 255 * v.toNat / 256 ∧ (mix v v b).toNat = v.toNat - 1) ∧
  (∀ lo hi : Byte, (mix lo hi 0#8).toNat = 255 * lo.toNat / 256 ∧ (mix lo hi 0#8).toNat = lo.toNat - 1) ∧
  (∀ lo hi : Byte, (mix lo hi 255#8).toNat = 255 * hi.toNat / 256) ∧
  (∀ x : Byte, (balance x).toNat ≤ 252) ∧
  (∀ lo hi : Byte, (mix lo hi 252#8).toNat = (252 * hi.toNat + 3 * lo.toNat) / 256) ∧
  (∀ lo lo' hi hi' b : Byte, lo.toNat ≤ lo'.toNat → hi.toNat ≤ hi'.toNat →
    (mix lo hi b).toNat ≤ (mix lo' hi' b).toNat) ∧
  (∀ lo hi b b' : Byte, b.toNat ≤ b'.toNat →
    (lo.toNat ≤ hi.toNat → (mix lo hi b).toNat ≤ (mix lo hi b').toNat) ∧
    (hi.toNat ≤ lo.toNat → (mix lo hi b').toNat ≤ (mix lo hi b).toNat)) ∧
  (∀ b : Byte, mix 0#8 0#8 b = 0#8)

/-- R87: the Interpolator, computed on numbers by the six steps of R82 to R87, and its worked example. -/
def Obligations.InterpolatorFollowsSteps : Prop :=
  (∀ (dm : Fin 5 → Fin 5 → Fin 96 → Byte) (x y : Byte) (st : BitVec 5) (ch : Channel),
    let i := x.toNat / 64
    let j := y.toNat / 64
    let i1 := min (i + 1) 4
    let j1 := min (j + 1) 4
    let node := fun p q => (dm (Fin.ofNat 5 p) (Fin.ofNat 5 q) (Fin.ofNat 96 (ch.val * 32 + st.toNat))).toNat
    let xb := x.toNat % 64 * 4
    let yb := y.toNat % 64 * 4
    let top := (node i1 j * xb + node i j * (255 - xb)) / 256
    let bottom := (node i1 j1 * xb + node i j1 * (255 - xb)) / 256
    (interpolator dm x y st ch).toNat = (bottom * yb + top * (255 - yb)) / 256) ∧
  (cellIndex 160#8).val = 2 ∧ (cellIndex 96#8).val = 1 ∧ balance 160#8 = 128#8 ∧ balance 96#8 = 128#8 ∧
  mix 10#8 250#8 (balance 160#8) = 129#8 ∧ mix 90#8 170#8 (balance 160#8) = 129#8 ∧
  blend 10#8 250#8 90#8 170#8 160#8 96#8 = 128#8

/-- 40_interpolator.md section 2 (R89): no level exceeds 253; 255 is reached after the perturbation is added. -/
def Obligations.LevelAtMost253 : Prop :=
  (∀ (dm : Fin 5 → Fin 5 → Fin 96 → Byte) (x y : Byte) (st : BitVec 5) (c : Channel),
    (interpolator dm x y st c).toNat ≤ 253) ∧
  (∃ p : Byte, addPerturbation 253#8 p = 255#8)

/-- 40_interpolator.md section 2 (R90 items 1 and 2): where `x` and `y` are multiples of 64 the level depends on one
node alone, and is 2 below its byte. -/
def Obligations.LevelAtLatticePoints : Prop :=
  ∀ (dm : Fin 5 → Fin 5 → Fin 96 → Byte) (x y : Byte) (st : BitVec 5) (c : Channel),
    x.toNat % 64 = 0 → y.toNat % 64 = 0 →
    (interpolator dm x y st c).toNat =
      (dm (Fin.ofNat 5 (x.toNat / 64)) (Fin.ofNat 5 (y.toNat / 64)) (nodeOffset c st)).toNat - 2

/-- 40_interpolator.md section 2 (R90 item 4): four equal corner bytes are lowered by 2, whatever `x` and `y` are. -/
def Obligations.FlatMapIsLoweredByTwo : Prop :=
  ∀ (dm : Fin 5 → Fin 5 → Fin 96 → Byte) (x y : Byte) (st : BitVec 5) (c : Channel) (v : Byte),
    (∀ i ∈ [nearNode x, farNode x], ∀ j ∈ [nearNode y, farNode y], dm i j (nodeOffset c st) = v) →
    (interpolator dm x y st c).toNat = v.toNat - 2

/-- 20_memory.md section 2 (R42, R43): every byte of every node has its own address, and the addresses are
0..2399. -/
def Obligations.DrumMapAddressesAreOneToOne : Prop :=
  (∀ i j k, drumMapAddr i j k < drumMapSize) ∧
  (∀ i j k i' j' k', drumMapAddr i j k = drumMapAddr i' j' k' → i = i' ∧ j = j' ∧ k = k') ∧
  (∀ a, a < drumMapSize → ∃ i j k, drumMapAddr i j k = a)

/-! ### The comparator and Grid-mode evaluation -/

/-- R121: `scale`. -/
def Obligations.ScaleTruncates : Prop :=
  (∀ r q : Byte, (scale r q).toNat = r.toNat * q.toNat / 256 ∧ r.toNat * q.toNat ≤ 65025 ∧ (scale r q).toNat ≤ 254) ∧
  (∀ r : Byte, scale r 0#8 = 0#8) ∧ (∀ q : Byte, scale 0#8 q = 0#8) ∧
  (∀ r : Byte, 1 ≤ r.toNat → (scale r 255#8).toNat = r.toNat - 1) ∧ scale 200#8 128#8 = 100#8

/-- 42_threshold_comparator.md section 2 (R122): the saturating add. -/
def Obligations.AddPerturbationSaturates : Prop :=
  (∀ level p : Byte, (addPerturbation level p).toNat = min (level.toNat + p.toNat) 255) ∧
  (∀ level : Byte, addPerturbation level 0#8 = level) ∧ addPerturbation 250#8 10#8 = 255#8

/-- 42_threshold_comparator.md section 2 (R123, R124): the trigger, its equivalent form and its corner cases. -/
def Obligations.TriggerComparison : Prop :=
  ∀ level p density : Byte,
    threshold density = 255 - density.toNat ∧
    (laneTrigger level p density = true ↔ 255 - density.toNat < (addPerturbation level p).toNat) ∧
    (laneTrigger level p density = true ↔ 255 < (addPerturbation level p).toNat + density.toNat) ∧
    laneTrigger level p 0#8 = false ∧
    (laneTrigger level p 255#8 = true ↔ 1 ≤ (addPerturbation level p).toNat) ∧
    ((addPerturbation level p).toNat = 255 - density.toNat → laneTrigger level p density = false)

/-- 42_threshold_comparator.md section 2 (R125): the accent, inside the trigger; with `density <= 63` every trigger is an accent. -/
def Obligations.AccentComparison : Prop :=
  ∀ level p density : Byte,
    (laneAccent level p density = true ↔
      laneTrigger level p density = true ∧ 192 < (addPerturbation level p).toNat) ∧
    (density.toNat ≤ 63 → laneAccent level p density = laneTrigger level p density) ∧
    laneAccent 192#8 0#8 255#8 = false ∧ laneAccent 193#8 0#8 255#8 = true

/-- R126, R127: a Grid-mode `EVAL` at `pulse == 0`: the re-roll, the two bits of each channel from the perturbations as
they then are, the clock and reset bits, the frame, and the worked example. What the random source's own fields then are
is said in `DrawsOnlyAtReroll`. -/
def Obligations.GridEvalResult : Prop :=
  (∀ s : State, s.fault = false → s.pulse = 0#2 → s.outputMode = .grid →
    ∃ t, exec .eval s = .next t ∧
      t = { s with
        partPerturbation := t.partPerturbation, evt := t.evt, rspValid := true, evtValid := true
        rndIn := t.rndIn, rolls := t.rolls } ∧
      (∀ c, (t.partPerturbation.get c).toNat =
        if s.step = 0#5 then (s.draw c).toNat * s.randomness.toNat / 256 else (s.partPerturbation.get c).toNat) ∧
      (∀ c : Channel,
        let level := min ((interpolator s.DM s.x s.y s.step c).toNat + (t.partPerturbation.get c).toNat) 255
        (t.evt.getLsbD c.val = true ↔ 255 - (s.density.get c).toNat < level) ∧
        (t.evt.getLsbD (c.val + 3) = true ↔ 255 - (s.density.get c).toNat < level ∧ 192 < level)) ∧
      t.evt.getLsbD 6 = true ∧ (t.evt.getLsbD 7 = true ↔ s.step = 0#5)) ∧
  gridModeWord ⟨laneTrigger 200#8 0#8 128#8, laneTrigger 100#8 30#8 128#8, laneTrigger 130#8 0#8 128#8⟩
    ⟨laneAccent 200#8 0#8 128#8, laneAccent 100#8 30#8 128#8, laneAccent 130#8 0#8 128#8⟩ 5#5 = 0x4F#8

/-- 30_encoding.md section 7 and 44_dispatch_and_setters.md section 1 (R70 to R72, R150): the range of the event word
in each case, and no accent without a trigger. -/
def Obligations.EventWordRanges : Prop :=
  ∀ s : State, s.fault = false → ∃ t, exec .eval s = .next t ∧ t.evtValid = true ∧
    (s.pulse ≠ 0#2 → t.evt = 0#8) ∧
    (s.pulse = 0#2 → s.outputMode = .grid → 0x40 ≤ t.evt.toNat ∧ (s.step = 0#5 → 0xC0 ≤ t.evt.toNat) ∧
      ∀ c : Channel, t.evt.getLsbD (c.val + 3) = true → t.evt.getLsbD c.val = true) ∧
    (s.pulse = 0#2 → s.outputMode = .euclidean → t.evt.toNat ≤ 7)

/-- R72: off the step boundary an `EVAL` returns 0 in either mode; it writes nothing (R150). -/
def Obligations.EvalOffBoundaryReturnsZero : Prop :=
  ∀ s : State, s.fault = false → s.pulse ≠ 0#2 →
    exec .eval s = .next { s with evt := 0#8, rspValid := true, evtValid := true }

/-- 70_reset_and_hazards.md section 3 (R193) and 42_threshold_comparator.md section 3 (R128): a second `EVAL` right
after one that neither re-rolls nor moves a cursor changes nothing and returns the same word. -/
def Obligations.RepeatedEvalIsStable : Prop :=
  ∀ s : State, s.pulse ≠ 0#2 ∨ (s.outputMode = .grid ∧ s.step ≠ 0#5) →
    ∃ t, exec .eval s = .next t ∧ exec .eval t = .next t

/-- 42_threshold_comparator.md section 3 (R130): without perturbation a channel with `density <= 2` never triggers. -/
def Obligations.LowDensityNeverTriggers : Prop :=
  ∀ (s : State) (c : Channel), s.fault = false → s.pulse = 0#2 → s.outputMode = .grid →
    s.partPerturbation.get c = 0#8 → (s.step = 0#5 → s.randomness = 0#8) → (s.density.get c).toNat ≤ 2 →
    ∃ t, exec .eval s = .next t ∧ t.partPerturbation.get c = 0#8 ∧ t.evt.getLsbD c.val = false ∧
      t.evt.getLsbD (c.val + 3) = false

/-- 42_threshold_comparator.md section 3 (R129): the trigger and accent of a channel depend on nothing of the other
channels. -/
def Obligations.ChannelsAreIndependent : Prop :=
  ∀ (s s' : State) (c : Channel),
    s.fault = false → s'.fault = false → s.pulse = 0#2 → s'.pulse = 0#2 →
    s.outputMode = .grid → s'.outputMode = .grid →
    s'.x = s.x → s'.y = s.y → s'.step = s.step → s'.randomness = s.randomness →
    s'.density.get c = s.density.get c → s'.partPerturbation.get c = s.partPerturbation.get c →
    s'.draw c = s.draw c → (∀ i j, s'.DM i j (nodeOffset c s.step) = s.DM i j (nodeOffset c s.step)) →
    ∃ t t', exec .eval s = .next t ∧ exec .eval s' = .next t' ∧
      t'.evt.getLsbD c.val = t.evt.getLsbD c.val ∧ t'.evt.getLsbD (c.val + 3) = t.evt.getLsbD (c.val + 3) ∧
      t'.partPerturbation.get c = t.partPerturbation.get c

/-- 42_threshold_comparator.md section 3 and 70_reset_and_hazards.md section 3 (R131, R200): no command but an `EVAL`
that re-rolls reads `randomness`. With any other `randomness` every other command gives the same next state but for that
register, and `SETRAND`, which writes it, the same next state. -/
def Obligations.RandomnessActsOnlyAtReroll : Prop :=
  (∀ (i : Instr) (s : State) (v : Byte), (∀ u, i ≠ .setrand u) →
    ¬(i = .eval ∧ s.fault = false ∧ s.pulse = 0#2 ∧ s.outputMode = .grid ∧ s.step = 0#5) →
      ∃ t, exec i s = .next t ∧ exec i { s with randomness := v } = .next { t with randomness := v }) ∧
  (∀ (s : State) (u v : Byte), s.fault = false →
    ∃ t, exec (.setrand u) s = .next t ∧ exec (.setrand u) { s with randomness := v } = .next t)

/-- 42_threshold_comparator.md section 1 (R120): draws are taken exactly by an `EVAL` that re-rolls, and what they
are stored as. The random source's fields are the model's own (log 5). -/
def Obligations.DrawsOnlyAtReroll : Prop :=
  ∀ (i : Instr) (s : State), ∃ t, exec i s = .next t ∧
    if i = .eval ∧ s.fault = false ∧ s.pulse = 0#2 ∧ s.outputMode = .grid ∧ s.step = 0#5 then
      t.rolls = s.rolls + 1 ∧ t.rndIn = s.rndIn.tail ∧
        ∀ c, t.partPerturbation.get c = scale (s.draw c) s.randomness
    else t.rolls = s.rolls ∧ t.rndIn = s.rndIn ∧ t.partPerturbation = s.partPerturbation

/-! ### Euclidean-mode evaluation -/

/-- R140: the pattern length, in 1..8, and its ranges of density. -/
def Obligations.EuclideanLengthRanges : Prop :=
  ∀ d : Byte, euclideanLength d = d.toNat / 32 + 1 ∧ 1 ≤ euclideanLength d ∧ euclideanLength d ≤ 8 ∧
    (∀ n, euclideanLength d = n + 1 ↔ 32 * n ≤ d.toNat ∧ d.toNat ≤ 32 * n + 31) ∧
    euclideanLength State.reset.density.ch0 = 5

/-- R142: a Euclidean-mode `EVAL` at `pulse == 0`: the trigger bits from the cursors before their advance, no other bit
(R71), the advance of all three cursors (R143), and the frame. -/
def Obligations.EuclideanEvalResult : Prop :=
  ∀ s : State, s.fault = false → s.pulse = 0#2 → s.outputMode = .euclidean →
    ∃ t, exec .eval s = .next t ∧
      t = { s with eulideanStep := t.eulideanStep, evt := t.evt, rspValid := true, evtValid := true } ∧
      (∀ c, (t.eulideanStep.get c).toNat = ((s.eulideanStep.get c).toNat + 1) % 32) ∧
      (∀ c : Channel, t.evt.getLsbD c.val =
        (s.EU (Fin.ofNat 256 ((s.density.get c).toNat / 32))).getLsbD (s.eulideanStep.get c).toNat) ∧
      (∀ k, 3 ≤ k → t.evt.getLsbD k = false)

/-- 43_euclidean.md (R145): after `m` evaluations the next trigger bit of a channel is bit `e + m`, modulo 32, of its mask, where `e` is
the cursor at the first of them. -/
def Obligations.EuclideanPeriodicity : Prop :=
  ∀ s : State, s.fault = false → s.pulse = 0#2 → s.outputMode = .euclidean →
    ∀ m : Nat, ∃ t u, execTimes m .eval s = .next t ∧ exec .eval t = .next u ∧
      ∀ c : Channel, u.evt.getLsbD c.val =
        (s.EU (Fin.ofNat 256 ((s.density.get c).toNat / 32))).getLsbD (((s.eulideanStep.get c).toNat + m) % 32)

/-- 43_euclidean.md (R147): `InvariantViolation` cannot happen. -/
def Obligations.InvariantViolationUnreachable : Prop :=
  ∀ s : State, (∀ c, (s.density.get c).toNat / 32 ≤ 7 ∧ (s.pattern c).isSome = true) ∧
    (s.fault = false → ∃ t, exec .eval s = .next t ∧ t.fault = false ∧ t.faultCode = s.faultCode)

/-- 43_euclidean.md (R144) and 42_threshold_comparator.md section 3 (R127): neither mode's evaluation reads the other
mode's state. -/
def Obligations.ModesReadTheirOwnState : Prop :=
  ∀ s : State, ∃ t, exec .eval s = .next t ∧
    (s.outputMode = .euclidean → ∀ x y r st p dm,
      exec .eval { s with x := x, y := y, randomness := r, step := st, partPerturbation := p, drumMap := dm } =
        .next { t with x := x, y := y, randomness := r, step := st, partPerturbation := p, drumMap := dm }) ∧
    (s.outputMode = .grid → ∀ e eu,
      exec .eval { s with eulideanStep := e, euclideanTable := eu } =
        .next { t with eulideanStep := e, euclideanTable := eu })

/-! ### Who writes what, and the tables -/

/-- R32: a command not listed for a field leaves it unchanged. -/
def Obligations.OnlyListedCommandsWrite : Prop :=
  ∀ (i : Instr) (s : State), ∃ t, exec i s = .next t ∧
    ((∀ v, i ≠ .setx v) → t.x = s.x) ∧
    ((∀ v, i ≠ .sety v) → t.y = s.y) ∧
    (∀ c : Channel, (∀ v, i ≠ .setdens (BitVec.ofNat 2 c.val) v) → t.density.get c = s.density.get c) ∧
    ((∀ v, i ≠ .setrand v) → t.randomness = s.randomness) ∧
    ((∀ m, i ≠ .setmode m) → t.outputMode = s.outputMode) ∧
    ((∀ r, i ≠ .setres r) → t.clockResolution = s.clockResolution) ∧
    ((∀ n, i ≠ .tick n) → t.pulse = s.pulse ∧ t.step = s.step) ∧
    (¬(i = .eval ∧ s.pulse = 0#2 ∧ s.outputMode = .grid ∧ s.step = 0#5) → t.partPerturbation = s.partPerturbation) ∧
    (¬(i = .eval ∧ s.pulse = 0#2 ∧ s.outputMode = .euclidean) → t.eulideanStep = s.eulideanStep) ∧
    (WellFormed i → t.fault = s.fault ∧ t.faultCode = s.faultCode)

/-- 20_memory.md section 4 (R47) and section 5 (R57): no command changes a table, and after the first `EVAL` since
reset nothing does. When exactly the tables are fixed is the model's choice (log 4). -/
def Obligations.TablesFixedDuringRun : Prop :=
  (∀ (i : Instr) (s t : State), exec i s = .next t →
    t.drumMap = s.drumMap ∧ t.euclideanTable = s.euclideanTable ∧ t.tablesLocked = s.tablesLocked ∧
      t.inputs = s.inputs) ∧
  (∀ s t : State, step s = .next t → s.tablesLocked = true →
    t.drumMap = s.drumMap ∧ t.euclideanTable = s.euclideanTable ∧
      ((∀ rest, s.inputs ≠ .reset :: rest) → t.tablesLocked = true))

/-- 20_memory.md sections 2 to 4: a supplied table entry is what the block then reads there, and every other entry
reads as before. How entries are supplied is the model's choice (log 3, log 4), and so is that both strobes are 0 after
such a step (log 6). -/
def Obligations.SuppliedEntryIsRead : Prop :=
  ∀ (s : State) (rest : List HostInput), s.tablesLocked = false →
    (∀ i j k b, s.inputs = .loadDrumMap (drumMapAddr i j k) b :: rest →
      ∃ t, step s = .next t ∧ t = { s with drumMap := t.drumMap, inputs := rest, rspValid := false, evtValid := false } ∧
        t.DM i j k = b ∧ ∀ i' j' k', ¬(i' = i ∧ j' = j ∧ k' = k) → t.DM i' j' k' = s.DM i' j' k') ∧
    (∀ (n : Fin 256) m, s.inputs = .loadEuclidean n.val m :: rest →
      ∃ t, step s = .next t ∧
        t = { s with euclideanTable := t.euclideanTable, inputs := rest, rspValid := false, evtValid := false } ∧
        t.EU n = m ∧ ∀ n', n' ≠ n → t.EU n' = s.EU n')

/-- 20_memory.md section 5 (R57): a table change during a run is refused. When exactly a run begins is the model's
choice (log 4). That supplying an entry outside a table is a fault is the model's choice too (log 4, log 9): R42 and R44
give the tables no such entry, and no rule says what supplying one does. -/
def Obligations.TableChangeStops : Prop :=
  ∀ (s : State) (rest : List HostInput),
    (∀ a b, s.inputs = .loadDrumMap a b :: rest →
      (2400 ≤ a → step s = .fault (.noDrumMapByte a)) ∧
      (a < 2400 → s.tablesLocked = true → step s = .refused .tableChangedDuringRun)) ∧
    (∀ n m, s.inputs = .loadEuclidean n m :: rest →
      (256 ≤ n → step s = .fault (.noEuclideanWord n)) ∧
      (n < 256 → s.tablesLocked = true → step s = .refused .tableChangedDuringRun))

/-! ### Runs -/

/-- 70_reset_and_hazards.md section 5 (R203): the observation of the empty run is the reset record and no event word;
one more command adds what one step from the run's final state does: its record, and its event word, if it returns one,
with its position. Every run ends, with no command left, in a state that is stable. That a step takes the host's next
word is the model's choice (log 1), and so are that positions count from 0 (log 19) and that the strobes fall in the
idle step (log 6). -/
def Obligations.RunObservationGrows : Prop :=
  (∀ s : State, observe s [] = some ⟨State.reset.record, []⟩) ∧
  (∀ (s : State) (cmds : List CmdWord) (w : CmdWord),
    ∃ t u o, stepTimes cmds.length (s.beginRun cmds) = .next t ∧ t.inputs = [] ∧ step t = .next t.quiet ∧
      t.quiet.record = t.record ∧ observe s cmds = some o ∧ o.final = t.record ∧
      step (t.offer w) = .next u ∧
      observe s (cmds ++ [w]) =
        some ⟨u.record, o.events ++ if u.evtValid then [(cmds.length, u.evt)] else []⟩)

/-- 70_reset_and_hazards.md section 5 and 60_exceptions.md section 2 (R203, R176): a run is good exactly when none of
its words is reserved; a good run returns one event word for each `EVAL`, in order, at its position in the list; any
other run returns event words at some of those positions, in order. That an `EVAL` taken after the fault returns none is
the model's choice between R176 and R73 (log 14). That positions count from 0 is the model's choice too (log 19). -/
def Obligations.GoodRunsAreRunsWithoutReservedWords : Prop :=
  ∀ (s : State) (cmds : List CmdWord), ∃ o, observe s cmds = some o ∧
    (o.Good ↔ ∀ w ∈ cmds, ¬ReservedWord w) ∧
    (o.events.map Prod.fst).Sublist
      ((List.range cmds.length).filter fun p => cmds[p]? == some 0x1000#16) ∧
    (o.Good → o.events.map Prod.fst = (List.range cmds.length).filter fun p => cmds[p]? == some 0x1000#16)
end

