-- ==== Sys2Proof/Laws/Memory.lean ====
section
/-! SUPPORT. The tables: read after write, and the canonical form, which every operation on them keeps. -/

namespace Sys2Proof.Machine

theorem Memory.read_write_same {w : Nat} (m : Memory w) (a : Nat) (v : BitVec w) :
    Memory.read (Memory.write m a v) a = some v := by
  induction m with
  | nil => simp [Memory.write, Memory.read]
  | cons p rest ih =>
    obtain ⟨b, u⟩ := p
    simp only [Memory.write]
    split_ifs with h1 h2
    · simp [Memory.read]
    · simp [Memory.read]
    · simp [Memory.read, h2, ih]

theorem Memory.read_write_other {w : Nat} (m : Memory w) {a b : Nat} (v : BitVec w) (h : b ≠ a) :
    Memory.read (Memory.write m a v) b = Memory.read m b := by
  induction m with
  | nil => simp [Memory.write, Memory.read, h]
  | cons p rest ih =>
    obtain ⟨d, u⟩ := p
    simp only [Memory.write]
    split_ifs with h1 h2
    · simp [Memory.read, h]
    · subst h2
      simp [Memory.read, h]
    · simp [Memory.read, ih]

theorem Memory.wfFrom_write {w : Nat} {size lo : Nat} {m : Memory w} {a : Nat} (v : BitVec w)
    (hm : Memory.wfFrom size lo m = true) (hlo : lo ≤ a) (ha : a < size) :
    Memory.wfFrom size lo (Memory.write m a v) = true := by
  induction m generalizing lo with
  | nil => simp [Memory.write, Memory.wfFrom, hlo, ha]
  | cons p rest ih =>
    obtain ⟨b, u⟩ := p
    simp only [Memory.wfFrom, Bool.and_eq_true, decide_eq_true_eq] at hm
    simp only [Memory.write]
    split_ifs with h1 h2
    · simp only [Memory.wfFrom, Bool.and_eq_true, decide_eq_true_eq]
      exact ⟨⟨hlo, ha⟩, ⟨⟨h1, hm.1.2⟩, hm.2⟩⟩
    · subst h2
      simp only [Memory.wfFrom, Bool.and_eq_true, decide_eq_true_eq]
      exact hm
    · simp only [Memory.wfFrom, Bool.and_eq_true, decide_eq_true_eq]
      exact ⟨hm.1, ih hm.2 (by omega)⟩

/-- Writing an address of the table keeps its canonical form. -/
theorem Memory.wf_write {w : Nat} {size : Nat} {m : Memory w} {a : Nat} (v : BitVec w)
    (hm : Memory.wf size m = true) (ha : a < size) : Memory.wf size (Memory.write m a v) = true :=
  Memory.wfFrom_write v hm (Nat.zero_le a) ha

theorem reset_drumMap_wf : Memory.wf drumMapSize State.reset.drumMap = true := rfl

theorem reset_euclideanTable_wf : Memory.wf euclideanSize State.reset.euclideanTable = true := rfl

/-- What supplying a DrumMap byte can do: outside the table it faults, during a run it is refused, else the byte is
written and the form is kept. -/
theorem loadDrumMapByte_cases (addr : Nat) (b : Byte) (s : State) :
    (drumMapSize ≤ addr ∧ loadDrumMapByte addr b s = .fault (.noDrumMapByte addr)) ∨
    (addr < drumMapSize ∧ s.tablesLocked = true ∧ loadDrumMapByte addr b s = .refused .tableChangedDuringRun) ∨
    (addr < drumMapSize ∧ s.tablesLocked = false ∧
      loadDrumMapByte addr b s = .next { s.quiet with drumMap := Memory.write s.drumMap addr b }) := by
  by_cases h : drumMapSize ≤ addr
  · exact .inl ⟨h, by simp [loadDrumMapByte, h]⟩
  · cases hl : s.tablesLocked
    · exact .inr (.inr ⟨by omega, rfl, by simp [loadDrumMapByte, h, hl]⟩)
    · exact .inr (.inl ⟨by omega, rfl, by simp [loadDrumMapByte, h, hl]⟩)

/-- What supplying an EuclideanTable word can do. -/
theorem loadEuclideanWord_cases (n : Nat) (m : Mask) (s : State) :
    (euclideanSize ≤ n ∧ loadEuclideanWord n m s = .fault (.noEuclideanWord n)) ∨
    (n < euclideanSize ∧ s.tablesLocked = true ∧ loadEuclideanWord n m s = .refused .tableChangedDuringRun) ∨
    (n < euclideanSize ∧ s.tablesLocked = false ∧
      loadEuclideanWord n m s = .next { s.quiet with euclideanTable := Memory.write s.euclideanTable n m }) := by
  by_cases h : euclideanSize ≤ n
  · exact .inl ⟨h, by simp [loadEuclideanWord, h]⟩
  · cases hl : s.tablesLocked
    · exact .inr (.inr ⟨by omega, rfl, by simp [loadEuclideanWord, h, hl]⟩)
    · exact .inr (.inl ⟨by omega, rfl, by simp [loadEuclideanWord, h, hl]⟩)

end Sys2Proof.Machine
end

