-- ==== Sys2Proof/Laws/State.lean ====
section
/-! SUPPORT. One lemma per field per named update of State, and the laws of the 3-entry register files. -/

namespace Sys2Proof.Machine

/-! ### Register files -/

theorem PerChannel.ext_get {α : Type} {f g : PerChannel α} (h : ∀ c, f.get c = g.get c) : f = g := by
  have h0 := h 0
  have h1 := h 1
  have h2 := h 2
  cases f
  cases g
  simp_all [PerChannel.get]

@[simp] theorem PerChannel.get_ofFn {α : Type} (g : Channel → α) (c : Channel) : (PerChannel.ofFn g).get c = g c := by
  fin_cases c <;> rfl

@[simp] theorem PerChannel.get_set_same {α : Type} (f : PerChannel α) (c : Channel) (v : α) : (f.set c v).get c = v := by
  fin_cases c <;> rfl

theorem PerChannel.get_set_other {α : Type} (f : PerChannel α) {c d : Channel} (v : α) (h : d ≠ c) :
    (f.set c v).get d = f.get d := by
  fin_cases c <;> fin_cases d <;> first | rfl | exact absurd rfl h

@[simp] theorem PerChannel.ofFn_ch0 {α : Type} (g : Channel → α) : (PerChannel.ofFn g).ch0 = g 0 := rfl
@[simp] theorem PerChannel.ofFn_ch1 {α : Type} (g : Channel → α) : (PerChannel.ofFn g).ch1 = g 1 := rfl
@[simp] theorem PerChannel.ofFn_ch2 {α : Type} (g : Channel → α) : (PerChannel.ofFn g).ch2 = g 2 := rfl

/-! ### `ack` -/

@[simp] theorem State.ack_x (s : State) : (s.ack).x = s.x := rfl
@[simp] theorem State.ack_y (s : State) : (s.ack).y = s.y := rfl
@[simp] theorem State.ack_randomness (s : State) : (s.ack).randomness = s.randomness := rfl
@[simp] theorem State.ack_density (s : State) : (s.ack).density = s.density := rfl
@[simp] theorem State.ack_partPerturbation (s : State) : (s.ack).partPerturbation = s.partPerturbation := rfl
@[simp] theorem State.ack_eulideanStep (s : State) : (s.ack).eulideanStep = s.eulideanStep := rfl
@[simp] theorem State.ack_step (s : State) : (s.ack).step = s.step := rfl
@[simp] theorem State.ack_pulse (s : State) : (s.ack).pulse = s.pulse := rfl
@[simp] theorem State.ack_outputMode (s : State) : (s.ack).outputMode = s.outputMode := rfl
@[simp] theorem State.ack_clockResolution (s : State) : (s.ack).clockResolution = s.clockResolution := rfl
@[simp] theorem State.ack_fault (s : State) : (s.ack).fault = s.fault := rfl
@[simp] theorem State.ack_faultCode (s : State) : (s.ack).faultCode = s.faultCode := rfl
@[simp] theorem State.ack_rspValid (s : State) : (s.ack).rspValid = true := rfl
@[simp] theorem State.ack_evtValid (s : State) : (s.ack).evtValid = false := rfl
@[simp] theorem State.ack_evt (s : State) : (s.ack).evt = s.evt := rfl
@[simp] theorem State.ack_drumMap (s : State) : (s.ack).drumMap = s.drumMap := rfl
@[simp] theorem State.ack_euclideanTable (s : State) : (s.ack).euclideanTable = s.euclideanTable := rfl
@[simp] theorem State.ack_tablesLocked (s : State) : (s.ack).tablesLocked = s.tablesLocked := rfl
@[simp] theorem State.ack_inputs (s : State) : (s.ack).inputs = s.inputs := rfl
@[simp] theorem State.ack_rndIn (s : State) : (s.ack).rndIn = s.rndIn := rfl
@[simp] theorem State.ack_rolls (s : State) : (s.ack).rolls = s.rolls := rfl

/-! ### `quiet` -/

@[simp] theorem State.quiet_x (s : State) : (s.quiet).x = s.x := rfl
@[simp] theorem State.quiet_y (s : State) : (s.quiet).y = s.y := rfl
@[simp] theorem State.quiet_randomness (s : State) : (s.quiet).randomness = s.randomness := rfl
@[simp] theorem State.quiet_density (s : State) : (s.quiet).density = s.density := rfl
@[simp] theorem State.quiet_partPerturbation (s : State) : (s.quiet).partPerturbation = s.partPerturbation := rfl
@[simp] theorem State.quiet_eulideanStep (s : State) : (s.quiet).eulideanStep = s.eulideanStep := rfl
@[simp] theorem State.quiet_step (s : State) : (s.quiet).step = s.step := rfl
@[simp] theorem State.quiet_pulse (s : State) : (s.quiet).pulse = s.pulse := rfl
@[simp] theorem State.quiet_outputMode (s : State) : (s.quiet).outputMode = s.outputMode := rfl
@[simp] theorem State.quiet_clockResolution (s : State) : (s.quiet).clockResolution = s.clockResolution := rfl
@[simp] theorem State.quiet_fault (s : State) : (s.quiet).fault = s.fault := rfl
@[simp] theorem State.quiet_faultCode (s : State) : (s.quiet).faultCode = s.faultCode := rfl
@[simp] theorem State.quiet_rspValid (s : State) : (s.quiet).rspValid = false := rfl
@[simp] theorem State.quiet_evtValid (s : State) : (s.quiet).evtValid = false := rfl
@[simp] theorem State.quiet_evt (s : State) : (s.quiet).evt = s.evt := rfl
@[simp] theorem State.quiet_drumMap (s : State) : (s.quiet).drumMap = s.drumMap := rfl
@[simp] theorem State.quiet_euclideanTable (s : State) : (s.quiet).euclideanTable = s.euclideanTable := rfl
@[simp] theorem State.quiet_tablesLocked (s : State) : (s.quiet).tablesLocked = s.tablesLocked := rfl
@[simp] theorem State.quiet_inputs (s : State) : (s.quiet).inputs = s.inputs := rfl
@[simp] theorem State.quiet_rndIn (s : State) : (s.quiet).rndIn = s.rndIn := rfl
@[simp] theorem State.quiet_rolls (s : State) : (s.quiet).rolls = s.rolls := rfl

/-! ### `respond` -/

@[simp] theorem State.respond_x (s : State) (e : Byte) : (s.respond e).x = s.x := rfl
@[simp] theorem State.respond_y (s : State) (e : Byte) : (s.respond e).y = s.y := rfl
@[simp] theorem State.respond_randomness (s : State) (e : Byte) : (s.respond e).randomness = s.randomness := rfl
@[simp] theorem State.respond_density (s : State) (e : Byte) : (s.respond e).density = s.density := rfl
@[simp] theorem State.respond_partPerturbation (s : State) (e : Byte) : (s.respond e).partPerturbation = s.partPerturbation := rfl
@[simp] theorem State.respond_eulideanStep (s : State) (e : Byte) : (s.respond e).eulideanStep = s.eulideanStep := rfl
@[simp] theorem State.respond_step (s : State) (e : Byte) : (s.respond e).step = s.step := rfl
@[simp] theorem State.respond_pulse (s : State) (e : Byte) : (s.respond e).pulse = s.pulse := rfl
@[simp] theorem State.respond_outputMode (s : State) (e : Byte) : (s.respond e).outputMode = s.outputMode := rfl
@[simp] theorem State.respond_clockResolution (s : State) (e : Byte) : (s.respond e).clockResolution = s.clockResolution := rfl
@[simp] theorem State.respond_fault (s : State) (e : Byte) : (s.respond e).fault = s.fault := rfl
@[simp] theorem State.respond_faultCode (s : State) (e : Byte) : (s.respond e).faultCode = s.faultCode := rfl
@[simp] theorem State.respond_rspValid (s : State) (e : Byte) : (s.respond e).rspValid = true := rfl
@[simp] theorem State.respond_evtValid (s : State) (e : Byte) : (s.respond e).evtValid = true := rfl
@[simp] theorem State.respond_evt (s : State) (e : Byte) : (s.respond e).evt = e := rfl
@[simp] theorem State.respond_drumMap (s : State) (e : Byte) : (s.respond e).drumMap = s.drumMap := rfl
@[simp] theorem State.respond_euclideanTable (s : State) (e : Byte) : (s.respond e).euclideanTable = s.euclideanTable := rfl
@[simp] theorem State.respond_tablesLocked (s : State) (e : Byte) : (s.respond e).tablesLocked = s.tablesLocked := rfl
@[simp] theorem State.respond_inputs (s : State) (e : Byte) : (s.respond e).inputs = s.inputs := rfl
@[simp] theorem State.respond_rndIn (s : State) (e : Byte) : (s.respond e).rndIn = s.rndIn := rfl
@[simp] theorem State.respond_rolls (s : State) (e : Byte) : (s.respond e).rolls = s.rolls := rfl

/-! ### `drawsTaken` -/

@[simp] theorem State.drawsTaken_x (s : State) : (s.drawsTaken).x = s.x := rfl
@[simp] theorem State.drawsTaken_y (s : State) : (s.drawsTaken).y = s.y := rfl
@[simp] theorem State.drawsTaken_randomness (s : State) : (s.drawsTaken).randomness = s.randomness := rfl
@[simp] theorem State.drawsTaken_density (s : State) : (s.drawsTaken).density = s.density := rfl
@[simp] theorem State.drawsTaken_partPerturbation (s : State) : (s.drawsTaken).partPerturbation = s.partPerturbation := rfl
@[simp] theorem State.drawsTaken_eulideanStep (s : State) : (s.drawsTaken).eulideanStep = s.eulideanStep := rfl
@[simp] theorem State.drawsTaken_step (s : State) : (s.drawsTaken).step = s.step := rfl
@[simp] theorem State.drawsTaken_pulse (s : State) : (s.drawsTaken).pulse = s.pulse := rfl
@[simp] theorem State.drawsTaken_outputMode (s : State) : (s.drawsTaken).outputMode = s.outputMode := rfl
@[simp] theorem State.drawsTaken_clockResolution (s : State) : (s.drawsTaken).clockResolution = s.clockResolution := rfl
@[simp] theorem State.drawsTaken_fault (s : State) : (s.drawsTaken).fault = s.fault := rfl
@[simp] theorem State.drawsTaken_faultCode (s : State) : (s.drawsTaken).faultCode = s.faultCode := rfl
@[simp] theorem State.drawsTaken_rspValid (s : State) : (s.drawsTaken).rspValid = s.rspValid := rfl
@[simp] theorem State.drawsTaken_evtValid (s : State) : (s.drawsTaken).evtValid = s.evtValid := rfl
@[simp] theorem State.drawsTaken_evt (s : State) : (s.drawsTaken).evt = s.evt := rfl
@[simp] theorem State.drawsTaken_drumMap (s : State) : (s.drawsTaken).drumMap = s.drumMap := rfl
@[simp] theorem State.drawsTaken_euclideanTable (s : State) : (s.drawsTaken).euclideanTable = s.euclideanTable := rfl
@[simp] theorem State.drawsTaken_tablesLocked (s : State) : (s.drawsTaken).tablesLocked = s.tablesLocked := rfl
@[simp] theorem State.drawsTaken_inputs (s : State) : (s.drawsTaken).inputs = s.inputs := rfl
@[simp] theorem State.drawsTaken_rndIn (s : State) : (s.drawsTaken).rndIn = s.rndIn.tail := rfl
@[simp] theorem State.drawsTaken_rolls (s : State) : (s.drawsTaken).rolls = s.rolls + 1 := rfl

/-! ### `reroll` -/

@[simp] theorem State.reroll_x (s : State) : (s.reroll).x = s.x := rfl
@[simp] theorem State.reroll_y (s : State) : (s.reroll).y = s.y := rfl
@[simp] theorem State.reroll_randomness (s : State) : (s.reroll).randomness = s.randomness := rfl
@[simp] theorem State.reroll_density (s : State) : (s.reroll).density = s.density := rfl
@[simp] theorem State.reroll_partPerturbation (s : State) : (s.reroll).partPerturbation = PerChannel.ofFn fun c => scale (s.draw c) s.randomness := rfl
@[simp] theorem State.reroll_eulideanStep (s : State) : (s.reroll).eulideanStep = s.eulideanStep := rfl
@[simp] theorem State.reroll_step (s : State) : (s.reroll).step = s.step := rfl
@[simp] theorem State.reroll_pulse (s : State) : (s.reroll).pulse = s.pulse := rfl
@[simp] theorem State.reroll_outputMode (s : State) : (s.reroll).outputMode = s.outputMode := rfl
@[simp] theorem State.reroll_clockResolution (s : State) : (s.reroll).clockResolution = s.clockResolution := rfl
@[simp] theorem State.reroll_fault (s : State) : (s.reroll).fault = s.fault := rfl
@[simp] theorem State.reroll_faultCode (s : State) : (s.reroll).faultCode = s.faultCode := rfl
@[simp] theorem State.reroll_rspValid (s : State) : (s.reroll).rspValid = s.rspValid := rfl
@[simp] theorem State.reroll_evtValid (s : State) : (s.reroll).evtValid = s.evtValid := rfl
@[simp] theorem State.reroll_evt (s : State) : (s.reroll).evt = s.evt := rfl
@[simp] theorem State.reroll_drumMap (s : State) : (s.reroll).drumMap = s.drumMap := rfl
@[simp] theorem State.reroll_euclideanTable (s : State) : (s.reroll).euclideanTable = s.euclideanTable := rfl
@[simp] theorem State.reroll_tablesLocked (s : State) : (s.reroll).tablesLocked = s.tablesLocked := rfl
@[simp] theorem State.reroll_inputs (s : State) : (s.reroll).inputs = s.inputs := rfl
@[simp] theorem State.reroll_rndIn (s : State) : (s.reroll).rndIn = s.rndIn.tail := rfl
@[simp] theorem State.reroll_rolls (s : State) : (s.reroll).rolls = s.rolls + 1 := rfl

/-! ### `advanceCursors` -/

@[simp] theorem State.advanceCursors_x (s : State) : (s.advanceCursors).x = s.x := rfl
@[simp] theorem State.advanceCursors_y (s : State) : (s.advanceCursors).y = s.y := rfl
@[simp] theorem State.advanceCursors_randomness (s : State) : (s.advanceCursors).randomness = s.randomness := rfl
@[simp] theorem State.advanceCursors_density (s : State) : (s.advanceCursors).density = s.density := rfl
@[simp] theorem State.advanceCursors_partPerturbation (s : State) : (s.advanceCursors).partPerturbation = s.partPerturbation := rfl
@[simp] theorem State.advanceCursors_eulideanStep (s : State) : (s.advanceCursors).eulideanStep = PerChannel.ofFn fun c => s.eulideanStep.get c + 1 := rfl
@[simp] theorem State.advanceCursors_step (s : State) : (s.advanceCursors).step = s.step := rfl
@[simp] theorem State.advanceCursors_pulse (s : State) : (s.advanceCursors).pulse = s.pulse := rfl
@[simp] theorem State.advanceCursors_outputMode (s : State) : (s.advanceCursors).outputMode = s.outputMode := rfl
@[simp] theorem State.advanceCursors_clockResolution (s : State) : (s.advanceCursors).clockResolution = s.clockResolution := rfl
@[simp] theorem State.advanceCursors_fault (s : State) : (s.advanceCursors).fault = s.fault := rfl
@[simp] theorem State.advanceCursors_faultCode (s : State) : (s.advanceCursors).faultCode = s.faultCode := rfl
@[simp] theorem State.advanceCursors_rspValid (s : State) : (s.advanceCursors).rspValid = s.rspValid := rfl
@[simp] theorem State.advanceCursors_evtValid (s : State) : (s.advanceCursors).evtValid = s.evtValid := rfl
@[simp] theorem State.advanceCursors_evt (s : State) : (s.advanceCursors).evt = s.evt := rfl
@[simp] theorem State.advanceCursors_drumMap (s : State) : (s.advanceCursors).drumMap = s.drumMap := rfl
@[simp] theorem State.advanceCursors_euclideanTable (s : State) : (s.advanceCursors).euclideanTable = s.euclideanTable := rfl
@[simp] theorem State.advanceCursors_tablesLocked (s : State) : (s.advanceCursors).tablesLocked = s.tablesLocked := rfl
@[simp] theorem State.advanceCursors_inputs (s : State) : (s.advanceCursors).inputs = s.inputs := rfl
@[simp] theorem State.advanceCursors_rndIn (s : State) : (s.advanceCursors).rndIn = s.rndIn := rfl
@[simp] theorem State.advanceCursors_rolls (s : State) : (s.advanceCursors).rolls = s.rolls := rfl

/-! ### `tickClock` -/

@[simp] theorem State.tickClock_x (s : State) (n : Nat) : (s.tickClock n).x = s.x := rfl
@[simp] theorem State.tickClock_y (s : State) (n : Nat) : (s.tickClock n).y = s.y := rfl
@[simp] theorem State.tickClock_randomness (s : State) (n : Nat) : (s.tickClock n).randomness = s.randomness := rfl
@[simp] theorem State.tickClock_density (s : State) (n : Nat) : (s.tickClock n).density = s.density := rfl
@[simp] theorem State.tickClock_partPerturbation (s : State) (n : Nat) : (s.tickClock n).partPerturbation = s.partPerturbation := rfl
@[simp] theorem State.tickClock_eulideanStep (s : State) (n : Nat) : (s.tickClock n).eulideanStep = s.eulideanStep := rfl
@[simp] theorem State.tickClock_outputMode (s : State) (n : Nat) : (s.tickClock n).outputMode = s.outputMode := rfl
@[simp] theorem State.tickClock_clockResolution (s : State) (n : Nat) : (s.tickClock n).clockResolution = s.clockResolution := rfl
@[simp] theorem State.tickClock_fault (s : State) (n : Nat) : (s.tickClock n).fault = s.fault := rfl
@[simp] theorem State.tickClock_faultCode (s : State) (n : Nat) : (s.tickClock n).faultCode = s.faultCode := rfl
@[simp] theorem State.tickClock_rspValid (s : State) (n : Nat) : (s.tickClock n).rspValid = s.rspValid := rfl
@[simp] theorem State.tickClock_evtValid (s : State) (n : Nat) : (s.tickClock n).evtValid = s.evtValid := rfl
@[simp] theorem State.tickClock_evt (s : State) (n : Nat) : (s.tickClock n).evt = s.evt := rfl
@[simp] theorem State.tickClock_drumMap (s : State) (n : Nat) : (s.tickClock n).drumMap = s.drumMap := rfl
@[simp] theorem State.tickClock_euclideanTable (s : State) (n : Nat) : (s.tickClock n).euclideanTable = s.euclideanTable := rfl
@[simp] theorem State.tickClock_tablesLocked (s : State) (n : Nat) : (s.tickClock n).tablesLocked = s.tablesLocked := rfl
@[simp] theorem State.tickClock_inputs (s : State) (n : Nat) : (s.tickClock n).inputs = s.inputs := rfl
@[simp] theorem State.tickClock_rndIn (s : State) (n : Nat) : (s.tickClock n).rndIn = s.rndIn := rfl
@[simp] theorem State.tickClock_rolls (s : State) (n : Nat) : (s.tickClock n).rolls = s.rolls := rfl

/-! ### `raise` -/

@[simp] theorem State.raise_x (s : State) (c : Cause) : (s.raise c).x = s.x := by
  cases h : s.fault <;> simp [State.raise, h, State.ack]
@[simp] theorem State.raise_y (s : State) (c : Cause) : (s.raise c).y = s.y := by
  cases h : s.fault <;> simp [State.raise, h, State.ack]
@[simp] theorem State.raise_randomness (s : State) (c : Cause) : (s.raise c).randomness = s.randomness := by
  cases h : s.fault <;> simp [State.raise, h, State.ack]
@[simp] theorem State.raise_density (s : State) (c : Cause) : (s.raise c).density = s.density := by
  cases h : s.fault <;> simp [State.raise, h, State.ack]
@[simp] theorem State.raise_partPerturbation (s : State) (c : Cause) : (s.raise c).partPerturbation = s.partPerturbation := by
  cases h : s.fault <;> simp [State.raise, h, State.ack]
@[simp] theorem State.raise_eulideanStep (s : State) (c : Cause) : (s.raise c).eulideanStep = s.eulideanStep := by
  cases h : s.fault <;> simp [State.raise, h, State.ack]
@[simp] theorem State.raise_step (s : State) (c : Cause) : (s.raise c).step = s.step := by
  cases h : s.fault <;> simp [State.raise, h, State.ack]
@[simp] theorem State.raise_pulse (s : State) (c : Cause) : (s.raise c).pulse = s.pulse := by
  cases h : s.fault <;> simp [State.raise, h, State.ack]
@[simp] theorem State.raise_outputMode (s : State) (c : Cause) : (s.raise c).outputMode = s.outputMode := by
  cases h : s.fault <;> simp [State.raise, h, State.ack]
@[simp] theorem State.raise_clockResolution (s : State) (c : Cause) : (s.raise c).clockResolution = s.clockResolution := by
  cases h : s.fault <;> simp [State.raise, h, State.ack]
@[simp] theorem State.raise_fault (s : State) (c : Cause) : (s.raise c).fault = true := by
  cases h : s.fault <;> simp [State.raise, h, State.ack]
@[simp] theorem State.raise_faultCode (s : State) (c : Cause) : (s.raise c).faultCode = if s.fault then s.faultCode else c.code := by
  cases h : s.fault <;> simp [State.raise, h, State.ack]
@[simp] theorem State.raise_rspValid (s : State) (c : Cause) : (s.raise c).rspValid = true := by
  cases h : s.fault <;> simp [State.raise, h, State.ack]
@[simp] theorem State.raise_evtValid (s : State) (c : Cause) : (s.raise c).evtValid = false := by
  cases h : s.fault <;> simp [State.raise, h, State.ack]
@[simp] theorem State.raise_evt (s : State) (c : Cause) : (s.raise c).evt = s.evt := by
  cases h : s.fault <;> simp [State.raise, h, State.ack]
@[simp] theorem State.raise_drumMap (s : State) (c : Cause) : (s.raise c).drumMap = s.drumMap := by
  cases h : s.fault <;> simp [State.raise, h, State.ack]
@[simp] theorem State.raise_euclideanTable (s : State) (c : Cause) : (s.raise c).euclideanTable = s.euclideanTable := by
  cases h : s.fault <;> simp [State.raise, h, State.ack]
@[simp] theorem State.raise_tablesLocked (s : State) (c : Cause) : (s.raise c).tablesLocked = s.tablesLocked := by
  cases h : s.fault <;> simp [State.raise, h, State.ack]
@[simp] theorem State.raise_inputs (s : State) (c : Cause) : (s.raise c).inputs = s.inputs := by
  cases h : s.fault <;> simp [State.raise, h, State.ack]
@[simp] theorem State.raise_rndIn (s : State) (c : Cause) : (s.raise c).rndIn = s.rndIn := by
  cases h : s.fault <;> simp [State.raise, h, State.ack]
@[simp] theorem State.raise_rolls (s : State) (c : Cause) : (s.raise c).rolls = s.rolls := by
  cases h : s.fault <;> simp [State.raise, h, State.ack]

/-! ### `assertReset` -/

@[simp] theorem State.assertReset_x (s : State) : (s.assertReset).x = State.reset.x := rfl
@[simp] theorem State.assertReset_y (s : State) : (s.assertReset).y = State.reset.y := rfl
@[simp] theorem State.assertReset_randomness (s : State) : (s.assertReset).randomness = State.reset.randomness := rfl
@[simp] theorem State.assertReset_density (s : State) : (s.assertReset).density = State.reset.density := rfl
@[simp] theorem State.assertReset_partPerturbation (s : State) : (s.assertReset).partPerturbation = State.reset.partPerturbation := rfl
@[simp] theorem State.assertReset_eulideanStep (s : State) : (s.assertReset).eulideanStep = State.reset.eulideanStep := rfl
@[simp] theorem State.assertReset_step (s : State) : (s.assertReset).step = State.reset.step := rfl
@[simp] theorem State.assertReset_pulse (s : State) : (s.assertReset).pulse = State.reset.pulse := rfl
@[simp] theorem State.assertReset_outputMode (s : State) : (s.assertReset).outputMode = State.reset.outputMode := rfl
@[simp] theorem State.assertReset_clockResolution (s : State) : (s.assertReset).clockResolution = State.reset.clockResolution := rfl
@[simp] theorem State.assertReset_fault (s : State) : (s.assertReset).fault = State.reset.fault := rfl
@[simp] theorem State.assertReset_faultCode (s : State) : (s.assertReset).faultCode = State.reset.faultCode := rfl
@[simp] theorem State.assertReset_rspValid (s : State) : (s.assertReset).rspValid = State.reset.rspValid := rfl
@[simp] theorem State.assertReset_evtValid (s : State) : (s.assertReset).evtValid = State.reset.evtValid := rfl
@[simp] theorem State.assertReset_evt (s : State) : (s.assertReset).evt = State.reset.evt := rfl
@[simp] theorem State.assertReset_drumMap (s : State) : (s.assertReset).drumMap = s.drumMap := rfl
@[simp] theorem State.assertReset_euclideanTable (s : State) : (s.assertReset).euclideanTable = s.euclideanTable := rfl
@[simp] theorem State.assertReset_tablesLocked (s : State) : (s.assertReset).tablesLocked = State.reset.tablesLocked := rfl
@[simp] theorem State.assertReset_inputs (s : State) : (s.assertReset).inputs = s.inputs := rfl
@[simp] theorem State.assertReset_rndIn (s : State) : (s.assertReset).rndIn = s.rndIn := rfl
@[simp] theorem State.assertReset_rolls (s : State) : (s.assertReset).rolls = s.rolls := rfl

/-! ### `taking` -/

@[simp] theorem State.taking_x (s : State) (i : Instr) (rest : List HostInput) : (s.taking i rest).x = s.x := rfl
@[simp] theorem State.taking_y (s : State) (i : Instr) (rest : List HostInput) : (s.taking i rest).y = s.y := rfl
@[simp] theorem State.taking_randomness (s : State) (i : Instr) (rest : List HostInput) : (s.taking i rest).randomness = s.randomness := rfl
@[simp] theorem State.taking_density (s : State) (i : Instr) (rest : List HostInput) : (s.taking i rest).density = s.density := rfl
@[simp] theorem State.taking_partPerturbation (s : State) (i : Instr) (rest : List HostInput) : (s.taking i rest).partPerturbation = s.partPerturbation := rfl
@[simp] theorem State.taking_eulideanStep (s : State) (i : Instr) (rest : List HostInput) : (s.taking i rest).eulideanStep = s.eulideanStep := rfl
@[simp] theorem State.taking_step (s : State) (i : Instr) (rest : List HostInput) : (s.taking i rest).step = s.step := rfl
@[simp] theorem State.taking_pulse (s : State) (i : Instr) (rest : List HostInput) : (s.taking i rest).pulse = s.pulse := rfl
@[simp] theorem State.taking_outputMode (s : State) (i : Instr) (rest : List HostInput) : (s.taking i rest).outputMode = s.outputMode := rfl
@[simp] theorem State.taking_clockResolution (s : State) (i : Instr) (rest : List HostInput) : (s.taking i rest).clockResolution = s.clockResolution := rfl
@[simp] theorem State.taking_fault (s : State) (i : Instr) (rest : List HostInput) : (s.taking i rest).fault = s.fault := rfl
@[simp] theorem State.taking_faultCode (s : State) (i : Instr) (rest : List HostInput) : (s.taking i rest).faultCode = s.faultCode := rfl
@[simp] theorem State.taking_rspValid (s : State) (i : Instr) (rest : List HostInput) : (s.taking i rest).rspValid = s.rspValid := rfl
@[simp] theorem State.taking_evtValid (s : State) (i : Instr) (rest : List HostInput) : (s.taking i rest).evtValid = s.evtValid := rfl
@[simp] theorem State.taking_evt (s : State) (i : Instr) (rest : List HostInput) : (s.taking i rest).evt = s.evt := rfl
@[simp] theorem State.taking_drumMap (s : State) (i : Instr) (rest : List HostInput) : (s.taking i rest).drumMap = s.drumMap := rfl
@[simp] theorem State.taking_euclideanTable (s : State) (i : Instr) (rest : List HostInput) : (s.taking i rest).euclideanTable = s.euclideanTable := rfl
@[simp] theorem State.taking_tablesLocked (s : State) (i : Instr) (rest : List HostInput) : (s.taking i rest).tablesLocked = (s.tablesLocked || readsTables i) := rfl
@[simp] theorem State.taking_inputs (s : State) (i : Instr) (rest : List HostInput) : (s.taking i rest).inputs = rest := rfl
@[simp] theorem State.taking_rndIn (s : State) (i : Instr) (rest : List HostInput) : (s.taking i rest).rndIn = s.rndIn := rfl
@[simp] theorem State.taking_rolls (s : State) (i : Instr) (rest : List HostInput) : (s.taking i rest).rolls = s.rolls := rfl

end Sys2Proof.Machine
end

