-- ==== Sys2Proof/Laws/Ops.lean ====
section
/-! SUPPORT. One lemma per shared operation that says what it can do: completing a command, fault entry, the two
evaluations, taking an input, and a step. -/

namespace Sys2Proof.Machine

/-! ### Commands and faults -/

theorem command_of_good {body : State → State} {s : State} (h : s.fault = false) : command body s = .next (body s) := by
  simp [command, h]

theorem command_of_fault {body : State → State} {s : State} (h : s.fault = true) : command body s = .next s.ack := by
  simp [command, h]

/-- Fault entry on a machine without fault (R174). -/
theorem raise_of_good {s : State} (c : Cause) (h : s.fault = false) :
    s.raise c = { s with fault := true, faultCode := c.code }.ack := by
  simp [State.raise, h]

/-- A second fault changes nothing (R174). -/
theorem raise_of_fault {s : State} (c : Cause) (h : s.fault = true) : s.raise c = s.ack := by
  simp [State.raise, h]

/-! ### The evaluations -/

/-- What `EVAL` does on a machine without fault: off the step boundary, in Grid mode, in Euclidean mode (R150). -/
theorem evaluate_cases (s : State) :
    (s.pulse ≠ 0#2 ∧ s.evaluate = s.respond 0#8) ∨
    (s.pulse = 0#2 ∧ s.outputMode = .grid ∧ s.evaluate = evaluateDrums s) ∨
    (s.pulse = 0#2 ∧ s.outputMode = .euclidean ∧ s.evaluate = evaluateEuclidean s) := by
  by_cases h : s.pulse = 0#2
  · cases hm : s.outputMode
    · exact .inr (.inl ⟨h, rfl, by simp [State.evaluate, h, hm]⟩)
    · exact .inr (.inr ⟨h, rfl, by simp [State.evaluate, h, hm]⟩)
  · exact .inl ⟨h, by simp [State.evaluate, h]⟩

/-- The re-roll happens exactly at `step == 0` (R120). -/
theorem perturbed_cases (s : State) :
    (s.step = 0#5 ∧ s.perturbed = s.reroll) ∨ (s.step ≠ 0#5 ∧ s.perturbed = s) := by
  by_cases h : s.step = 0#5
  · exact .inl ⟨h, by simp [State.perturbed, h]⟩
  · exact .inr ⟨h, by simp [State.perturbed, h]⟩

/-- What `evaluateEuclidean` does: it raises, or it answers a word and advances the three cursors (R144). -/
theorem evaluateEuclidean_cases (s : State) :
    (∃ p0 p1 p2, s.pattern 0 = some p0 ∧ s.pattern 1 = some p1 ∧ s.pattern 2 = some p2 ∧
      evaluateEuclidean s = s.advanceCursors.respond
        (euclideanModeWord ⟨patternBit p0 (s.eulideanStep.get 0), patternBit p1 (s.eulideanStep.get 1),
          patternBit p2 (s.eulideanStep.get 2)⟩)) ∨
    ((s.pattern 0 = none ∨ s.pattern 1 = none ∨ s.pattern 2 = none) ∧
      evaluateEuclidean s = s.raise .invariantViolation) := by
  unfold evaluateEuclidean
  split
  · exact .inl ⟨_, _, _, ‹_›, ‹_›, ‹_›, rfl⟩
  · rename_i h
    refine .inr ⟨?_, rfl⟩
    cases h0 : s.pattern 0 <;> cases h1 : s.pattern 1 <;> cases h2 : s.pattern 2 <;> simp_all

/-! ### Taking an input, and a step -/

/-- What taking a command word does: run the decoded command, or raise `IllegalCommand` (R173). -/
theorem takeCommand_cases (w : CmdWord) (rest : List HostInput) (s : State) :
    (∃ i, decode w = .ok i ∧ takeCommand w rest s = .run i (s.taking i rest)) ∨
    (∃ r, decode w = .error r ∧
      takeCommand w rest s = .done (.next ({ s with inputs := rest }.raise .illegalCommand))) := by
  cases h : decode w with
  | ok i => exact .inl ⟨i, rfl, by simp [takeCommand, h]⟩
  | error r => exact .inr ⟨r, rfl, by simp [takeCommand, h]⟩

/-- Everything a step can do, by the host's next input. -/
theorem step_cases (s : State) :
    (s.inputs = [] ∧ step s = .next s.quiet) ∨
    (∃ w rest i, s.inputs = .command w :: rest ∧ decode w = .ok i ∧ step s = exec i (s.taking i rest)) ∨
    (∃ w rest r, s.inputs = .command w :: rest ∧ decode w = .error r ∧
      step s = .next ({ s with inputs := rest }.raise .illegalCommand)) ∨
    (∃ rest, s.inputs = .reset :: rest ∧ step s = .next { s with inputs := rest }.assertReset) ∨
    (∃ a b rest, s.inputs = .loadDrumMap a b :: rest ∧ step s = loadDrumMapByte a b { s with inputs := rest }) ∨
    (∃ n m rest, s.inputs = .loadEuclidean n m :: rest ∧
      step s = loadEuclideanWord n m { s with inputs := rest }) := by
  cases hi : s.inputs with
  | nil => exact .inl ⟨rfl, by simp [step, takeInput, hi]⟩
  | cons e rest =>
    cases e with
    | command w =>
      rcases takeCommand_cases w rest s with ⟨i, hd, ht⟩ | ⟨r, hd, ht⟩
      · exact .inr (.inl ⟨w, rest, i, rfl, hd, by simp [step, takeInput, hi, ht]⟩)
      · exact .inr (.inr (.inl ⟨w, rest, r, rfl, hd, by simp [step, takeInput, hi, ht]⟩))
    | reset => exact .inr (.inr (.inr (.inl ⟨rest, rfl, by simp [step, takeInput, hi]⟩)))
    | loadDrumMap a b =>
      exact .inr (.inr (.inr (.inr (.inl ⟨a, b, rest, rfl, by simp [step, takeInput, hi]⟩))))
    | loadEuclidean n m =>
      exact .inr (.inr (.inr (.inr (.inr ⟨n, m, rest, rfl, by simp [step, takeInput, hi]⟩))))

end Sys2Proof.Machine
end

