-- ==== Sys2Proof/Laws/PerInstr.lean ====
section
/-! SUPPORT. A law about each command as syntax: its word lies in its own row of the opcode table (R63). -/

namespace Sys2Proof.Laws.MatchesRow

/-- The mask of a command's row (R63). -/
def mask : Instr → CmdWord
  | .eval => 0xFFFF
  | .tick _ => 0xFF00
  | .setx _ => 0xFF00
  | .sety _ => 0xFF00
  | .setdens _ _ => 0xFC00
  | .setrand _ => 0xFF00
  | .setres _ => 0xFFFC
  | .setmode _ => 0xFFFE

/-- The match of a command's row (R63). -/
def pattern : Instr → CmdWord
  | .eval => 0x1000
  | .tick _ => 0x2000
  | .setx _ => 0x3000
  | .sety _ => 0x4000
  | .setdens _ _ => 0x5000
  | .setrand _ => 0x6000
  | .setres _ => 0x7000
  | .setmode _ => 0x8000

/-- `(w & mask) == match` for the command's own word `w` (R63). -/
def Statement (i : Instr) : Prop := encode i &&& mask i = pattern i

theorem eval : Statement .eval := rfl

theorem tick (n : Byte) : Statement (.tick n) :=
  (by decide : ∀ n : Byte, encode (.tick n) &&& 0xFF00 = 0x2000) n

theorem setx (v : Byte) : Statement (.setx v) :=
  (by decide : ∀ v : Byte, encode (.setx v) &&& 0xFF00 = 0x3000) v

theorem sety (v : Byte) : Statement (.sety v) :=
  (by decide : ∀ v : Byte, encode (.sety v) &&& 0xFF00 = 0x4000) v

theorem setdens (c : BitVec 2) (v : Byte) : Statement (.setdens c v) :=
  (by decide : ∀ (c : BitVec 2) (v : Byte), encode (.setdens c v) &&& 0xFC00 = 0x5000) c v

theorem setrand (v : Byte) : Statement (.setrand v) :=
  (by decide : ∀ v : Byte, encode (.setrand v) &&& 0xFF00 = 0x6000) v

theorem setres (r : BitVec 2) : Statement (.setres r) :=
  (by decide : ∀ r : BitVec 2, encode (.setres r) &&& 0xFFFC = 0x7000) r

theorem setmode (m : BitVec 1) : Statement (.setmode m) :=
  (by decide : ∀ m : BitVec 1, encode (.setmode m) &&& 0xFFFE = 0x8000) m

end Sys2Proof.Laws.MatchesRow
end

