-- ==== Sys2Proof/Laws/Run.lean ====
section
/-! SUPPORT. What the functions of a run do, one step at a time (70_reset_and_hazards.md R203). -/

namespace Sys2Proof.Machine

/-! ### The record of a state -/

@[simp] theorem State.quiet_record (s : State) : s.quiet.record = s.record := rfl
@[simp] theorem State.ack_record (s : State) : s.ack.record = s.record := rfl
@[simp] theorem State.respond_record (s : State) (e : Byte) : (s.respond e).record = s.record := rfl
@[simp] theorem State.offer_record (s : State) (w : CmdWord) : (s.offer w).record = s.record := rfl
@[simp] theorem State.withCommands_record (s : State) (cmds : List CmdWord) :
    (s.withCommands cmds).record = s.record := rfl
@[simp] theorem State.assertReset_record (s : State) : s.assertReset.record = State.reset.record := rfl
@[simp] theorem State.beginRun_record (s : State) (cmds : List CmdWord) :
    (s.beginRun cmds).record = State.reset.record := rfl
@[simp] theorem State.record_fault (s : State) : s.record.fault = s.fault := rfl
@[simp] theorem State.beginRun_inputs (s : State) (cmds : List CmdWord) :
    (s.beginRun cmds).inputs = cmds.map HostInput.command := rfl
@[simp] theorem State.beginRun_fault (s : State) (cmds : List CmdWord) : (s.beginRun cmds).fault = false := rfl

/-! ### Steps that take a command -/

/-- A step that takes the word of a command runs that command (R66). -/
theorem step_of_command {s : State} {w : CmdWord} {rest : List HostInput} {i : Instr}
    (hs : s.inputs = .command w :: rest) (hd : decode w = .ok i) : step s = exec i (s.taking i rest) := by
  simp [step, takeInput, takeCommand, hs, hd]

/-- A step that takes a reserved word raises `IllegalCommand` (R173). -/
theorem step_of_reserved {s : State} {w : CmdWord} {rest : List HostInput} {r : Reserved}
    (hs : s.inputs = .command w :: rest) (hd : decode w = .error r) :
    step s = .next ({ s with inputs := rest }.raise .illegalCommand) := by
  simp [step, takeInput, takeCommand, hs, hd]

/-! ### Many steps, and the observation -/

theorem stepTimes_succ {s t : State} (h : step s = .next t) (k : Nat) : stepTimes (k + 1) s = stepTimes k t := by
  simp [stepTimes, h]

theorem returnedEvents_succ {s t : State} (h : step s = .next t) (k pos : Nat) :
    returnedEvents (k + 1) pos s = t.returned pos ++ returnedEvents k (if t.rspValid then pos + 1 else pos) t := by
  simp [returnedEvents, h]

theorem observe_of_next {s t : State} {cmds : List CmdWord}
    (h : stepTimes cmds.length (s.beginRun cmds) = .next t) :
    observe s cmds = some ⟨t.record, returnedEvents cmds.length 0 (s.beginRun cmds)⟩ := by
  simp [observe, h]

end Sys2Proof.Machine
end

