-- ==== Sys2Proof/Machine/Assembly.lean ====
section
/-! DEFINITION. The textual syntax and the pseudo-instructions (30_encoding.md R67, R68; log 16). -/

namespace Sys2Proof.Machine

/-- `PULSE` expands to `EVAL` followed by `TICK 1` (R68). -/
def expandPulse : List Instr := [.eval, .tick 1#8]

/-- `TICK` with no operand expands to `TICK 1` (R68). -/
def expandBareTick : List Instr := [.tick 1#8]

/-- A space or a tab. -/
def isBlank (c : Char) : Bool := c == ' ' || c == '\t'

/-- The text without blanks at either end. -/
def trim (t : List Char) : List Char := ((t.dropWhile isBlank).reverse.dropWhile isBlank).reverse

/-- The pieces between the commas of a text. -/
def splitCommas : List Char → List (List Char)
  | [] => [[]]
  | c :: rest =>
    match splitCommas rest with
    | [] => [[c]]
    | p :: ps => if c == ',' then [] :: p :: ps else (c :: p) :: ps

/-- The value of a digit in a base of at most 16. -/
def digitIn (base : Nat) (c : Char) : Option Nat :=
  let n := c.toNat
  let d := if 48 ≤ n ∧ n ≤ 57 then n - 48 else if 65 ≤ n ∧ n ≤ 70 then n - 55 else if 97 ≤ n ∧ n ≤ 102 then n - 87 else 16
  if d < base then some d else none

/-- The value of a digit sequence, most significant first, above `acc`. -/
def digitsFrom (base : Nat) : Nat → List Char → Option Nat
  | acc, [] => some acc
  | acc, c :: rest =>
    match digitIn base c with
    | some d => digitsFrom base (acc * base + d) rest
    | none => none

/-- A number in decimal or `0x` hexadecimal (R67). -/
def number : List Char → Option Nat
  | [] => none
  | ['0', 'x'] => none
  | '0' :: 'x' :: ds => digitsFrom 16 0 ds
  | ds => digitsFrom 10 0 ds

/-- A number that fits the field of `w` bits. -/
def fieldValue (w : Nat) (t : List Char) : Option (BitVec w) :=
  match number t with
  | some n => if n < 2 ^ w then some (BitVec.ofNat w n) else none
  | none => none

/-- The operand of `SETRES`: a name or a code of R64. -/
def resolutionText (t : List Char) : Option (BitVec 2) :=
  if t = "4PPQN".toList then some 0#2
  else if t = "8PPQN".toList then some 1#2
  else if t = "24PPQN".toList then some 2#2
  else fieldValue 2 t

/-- The operand of `SETMODE`: a name or a code of R64. -/
def modeText (t : List Char) : Option (BitVec 1) :=
  if t = "GRID".toList then some 0#1
  else if t = "EUCLIDEAN".toList then some 1#1
  else fieldValue 1 t

/-- A command whose one operand is an 8-bit value. -/
def unary (mk : Byte → Instr) (ops : List (List Char)) : Option (List Instr) :=
  match ops with
  | [t] => (fieldValue 8 t).map fun v => [mk v]
  | _ => none

/-- The commands a mnemonic and its operand texts stand for (R67, R68); none for what the encoding cannot carry. -/
def lineOf (mnemonic : List Char) (ops : List (List Char)) : Option (List Instr) :=
  if mnemonic = "EVAL".toList then (if ops = [] then some [.eval] else none)
  else if mnemonic = "PULSE".toList then (if ops = [] then some expandPulse else none)
  else if mnemonic = "TICK".toList then (if ops = [] then some expandBareTick else unary .tick ops)
  else if mnemonic = "SETX".toList then unary .setx ops
  else if mnemonic = "SETY".toList then unary .sety ops
  else if mnemonic = "SETRAND".toList then unary .setrand ops
  else if mnemonic = "SETDENS".toList then
    match ops with
    | [c, v] =>
      match fieldValue 2 c, fieldValue 8 v with
      | some c, some v => if c = 3#2 then none else some [.setdens c v]
      | _, _ => none
    | _ => none
  else if mnemonic = "SETRES".toList then
    match ops with
    | [r] =>
      match resolutionText r with
      | some r => if r = 3#2 then none else some [.setres r]
      | none => none
    | _ => none
  else if mnemonic = "SETMODE".toList then
    match ops with
    | [m] => (modeText m).map fun m => [.setmode m]
    | _ => none
  else none

/-- One line of a program: `;` starts a comment, a line with no command stands for none (R67). -/
def parseLine (line : String) : Option (List Instr) :=
  let text := trim (line.toList.takeWhile (· != ';'))
  if text = [] then some []
  else
    let operands := trim (text.dropWhile fun c => !isBlank c)
    lineOf (text.takeWhile fun c => !isBlank c)
      (if operands = [] then [] else (splitCommas operands).map trim)

/-- The command words of a program, a list of lines (R67). -/
def assemble : List String → Option (List CmdWord)
  | [] => some []
  | l :: rest =>
    match parseLine l, assemble rest with
    | some is, some ws => some (is.map encode ++ ws)
    | _, _ => none

end Sys2Proof.Machine
end

