-- ==== Sys2Proof/Tests/Slice0.lean ====
section
/-! SUPPORT. The model's own tests. Expected values are those of spec/95_test_vectors.md or of the examples of the
rules named; the witnesses at the end meet the hypotheses of the statements in Obligations.lean. -/

namespace Sys2Proof.Tests

open Sys2Proof.Machine

/-! ### Helpers -/

/-- `DM_T` of 95_test_vectors.md section 0. -/
def dmT (i j : Fin 5) (k : Fin 96) : Byte :=
  BitVec.ofNat 8 (37 * i.val + 59 * j.val + 83 * (k.val / 32) + 7 * (k.val % 32) + 11)

/-- The twelve bytes of `DM_T` that a Grid-mode evaluation of this state reads (R53). -/
def dmCells (s : State) : Memory 8 :=
  [0, 1, 2].flatMap fun c : Channel =>
    [(nearNode s.x, nearNode s.y), (nearNode s.x, farNode s.y), (farNode s.x, nearNode s.y),
      (farNode s.x, farNode s.y)].map fun p =>
        (drumMapAddr p.1 p.2 (nodeOffset c s.step), dmT p.1 p.2 (nodeOffset c s.step))

/-- `EU_T`, words 0..7, of 95_test_vectors.md section 0. -/
def euT : Memory 32 :=
  [(0, 0x00000001), (1, 0x00010001), (2, 0x01010101), (3, 0x11111111),
    (4, 0x24924925), (5, 0x55555555), (6, 0x77777777), (7, 0xFFFFFFFF)]

/-- A fact about the next state; false of a stop. -/
def after (o : Host.Outcome State Fault Refusal) (p : State → Bool) : Bool :=
  match o with
  | .next t => p t
  | .fault _ => false
  | .refused _ => false

/-- The state just before `EVAL` number 1 of program P2, with its draws (200, 100, 255). -/
def p2 : State :=
  { State.reset with
    x := 200, y := 40, density := ⟨200, 64, 255⟩, randomness := 128, clockResolution := .ppqn4
    rndIn := [0xFF64C8#24] }

/-- The state just before command 22 of program P3. -/
def p3 : State :=
  { State.reset with
    density := ⟨0, 255, 128⟩, step := 7, outputMode := .euclidean, clockResolution := .ppqn4
    eulideanStep := ⟨5, 5, 5⟩, euclideanTable := euT }

/-- A state with a pulse at or above `pps` (R105), as in vectors V59. -/
def misaligned (r : ClockResolution) : State := { State.reset with pulse := 2, step := 4, clockResolution := r }

/-! ### WellFormed refuses -/

theorem test_ill_formed_channel : (Instr.setdens 3 0).wellFormed = false := by decide

theorem test_ill_formed_resolution : (Instr.setres 3).wellFormed = false := by decide

/-! ### Decoding: words written out from the patterns of R63, and the reserved words of section 2.9 -/

theorem test_decode_eval : decode 0b0001000000000000 = .ok .eval := by decide
theorem test_decode_tick : decode 0b0010000000000001 = .ok (.tick 1) := by decide
theorem test_decode_setx : decode 0b0011000011111111 = .ok (.setx 255) := by decide
theorem test_decode_sety : decode 0b0100000000000000 = .ok (.sety 0) := by decide
theorem test_decode_setdens : decode 0b0101000101100000 = .ok (.setdens 1 96) := by decide
theorem test_decode_setrand : decode 0b0110000010000000 = .ok (.setrand 128) := by decide
theorem test_decode_setres : decode 0b0111000000000001 = .ok (.setres 1) := by decide
theorem test_decode_setmode : decode 0b1000000000000000 = .ok (.setmode 0) := by decide

/-- V121 to V123, V126, V127, V129, V132, V133. -/
theorem test_reserved_low :
    decode 0x1001 = .error .evalData ∧ decode 0x1100 = .error .channelGiven ∧ decode 0x1400 = .error .mustBeZero ∧
    decode 0x2100 = .error .channelGiven ∧ decode 0x2801 = .error .mustBeZero ∧ decode 0x3CFF = .error .mustBeZero ∧
    decode 0x5300 = .error .noSuchChannel ∧ decode 0x5400 = .error .mustBeZero := by decide

/-- V135 to V137, V139 to V142. -/
theorem test_reserved_high :
    decode 0x7003 = .error .resolutionData ∧ decode 0x7004 = .error .resolutionData ∧
    decode 0x7102 = .error .channelGiven ∧ decode 0x8002 = .error .modeData ∧ decode 0x0000 = .error .opcode ∧
    decode 0x9000 = .error .opcode ∧ decode 0xFFFF = .error .opcode := by decide

/-- The words of the programs of section 3. -/
theorem test_encode_words :
    encode (.setdens 0 200) = 0x50C8 ∧ encode (.setdens 2 255) = 0x52FF ∧ encode (.setx 200) = 0x30C8 ∧
    encode (.tick 31) = 0x201F ∧ encode (.setres 2) = 0x7002 ∧ encode (.setmode 1) = 0x8001 := by decide

theorem test_decodeTableWord : decodeTableWord 16 0x51FF = some (.setdens 1 255) ∧ decodeTableWord 16 0x7003 = none := by
  decide

/-! ### The functions, on vectors of sections 2.1 to 2.6 -/

/-- V2, V6 to V9, V9d, V9e, V9i. -/
theorem test_mix :
    mix 255 255 0 = 254 ∧ mix 0 255 252 = 251 ∧ mix 255 0 252 = 2 ∧ mix 255 0 0 = 254 ∧ mix 100 200 128 = 149 ∧
    mix 1 1 252 = 0 ∧ mix 2 2 100 = 1 ∧ mix 7 9 252 = 8 := by decide

/-- V10c, V10d, V10j, V10k. -/
theorem test_cell_and_balance :
    (cellIndex 63).val = 0 ∧ balance 63 = 252 ∧ (cellIndex 64).val = 1 ∧ balance 64 = 0 ∧
    (farNode 200).val = 4 ∧ balance 200 = 32 ∧ (farNode 255).val = 4 ∧ balance 255 = 252 := by decide

/-- V26, V27, V30. -/
theorem test_interpolator :
    interpolator dmT 255 255 5 1 = 5 ∧ interpolator dmT 63 63 31 2 = 230 ∧ interpolator dmT 200 40 7 1 = 121 := by decide

/-- V73, V74, V76, V79b. -/
theorem test_scale : scale 255 255 = 254 ∧ scale 1 255 = 0 ∧ scale 200 128 = 100 ∧ scale 255 2 = 1 := by decide

/-- V80 to V84, V86, V89, V91, V92, V99: trigger and accent of one lane. -/
theorem test_lane :
    laneAccent 250 10 128 = true ∧ addPerturbation 245 10 = 255 ∧ addPerturbation 244 10 = 254 ∧
    laneTrigger 0 0 255 = false ∧ laneTrigger 1 0 255 = true ∧ laneTrigger 253 254 0 = false ∧
    laneTrigger 127 0 128 = false ∧ laneAccent 192 0 255 = false ∧ laneAccent 193 0 255 = true ∧
    laneAccent 200 0 55 = false := by decide

/-- V60b, V60c, V60g, V60h. -/
theorem test_length :
    euclideanLength 31 = 1 ∧ euclideanLength 32 = 2 ∧ euclideanLength 223 = 7 ∧ euclideanLength 224 = 8 := by decide

/-- A length outside 1..8 finds no pattern (R144, R172). -/
theorem test_pattern_refused : patternOfLength (fun _ => 0) 0 = none ∧ patternOfLength (fun _ => 0) 9 = none := by decide

/-- Addresses of the table of section 0. -/
theorem test_addr : drumMapAddr 4 4 37 = 2341 ∧ drumMapAddr 2 3 0 = 1248 ∧ drumMapAddr 4 4 95 = 2399 := by decide

/-- R48: the least significant byte lies lowest. -/
theorem test_little_endian : euclideanWordOfBytes (fun a => BitVec.ofNat 8 a) 1 = 0x07060504 := by decide

/-! ### The commands -/

/-- Program P2, `EVAL` 1: 0xED, perturbations (100, 50, 127). -/
theorem test_eval_grid :
    after (exec .eval { p2 with drumMap := dmCells p2 }) (fun t =>
      t.evt == 0xED && t.evtValid && t.partPerturbation == ⟨100, 50, 127⟩ && t.rndIn == []) = true := by decide

/-- Program P3, command 22: 0x06, cursors (6, 6, 6). -/
theorem test_eval_euclidean :
    after (exec .eval p3) (fun t => t.evt == 0x06 && t.eulideanStep == ⟨6, 6, 6⟩ && t.step == 7) = true := by decide

/-- V57. -/
theorem test_tick_255 : after (exec (.tick 255) State.reset) (fun t => t.pulse == 0 && t.step == 21) = true := by decide

/-- V59c. -/
theorem test_tick_misaligned :
    after (exec (.tick 1) (misaligned .ppqn8)) (fun t => t.pulse == 1 && t.step == 5) = true := by decide

/-- V111. -/
theorem test_setx : after (exec (.setx 255) State.reset) (fun t => t.x == 255 && t.y == 128) = true := by decide

/-- V112. -/
theorem test_sety : after (exec (.sety 64) State.reset) (fun t => t.y == 64 && t.x == 128) = true := by decide

/-- V114. -/
theorem test_setdens : after (exec (.setdens 1 255) State.reset) (fun t => t.density == ⟨128, 255, 128⟩) = true := by decide

/-- R154: channel 3. -/
theorem test_setdens_channel_3 :
    after (exec (.setdens 3 255) State.reset) (fun t =>
      t.density == ⟨128, 128, 128⟩ && t.fault && t.faultCode == 1) = true := by decide

/-- V116. -/
theorem test_setrand :
    after (exec (.setrand 128) State.reset) (fun t =>
      t.randomness == 128 && t.partPerturbation == ⟨0, 0, 0⟩) = true := by decide

/-- V117. -/
theorem test_setres :
    after (exec (.setres 1) (misaligned .ppqn24)) (fun t =>
      t.clockResolution == .ppqn8 && t.pulse == 2 && t.step == 4) = true := by decide

/-- V118. -/
theorem test_setmode : after (exec (.setmode 1) State.reset) (fun t => t.outputMode == .euclidean) = true := by decide

/-! ### Steps, faults, tables, wrapper and text -/

/-- V150. -/
theorem test_reserved_word_faults :
    after (step (State.reset.withFetchWord 16 0x5300)) (fun t =>
      t.fault && t.faultCode == 1 && t.rspValid && !t.evtValid) = true := by decide

/-- V151: no effect, and the code of the first fault is kept. -/
theorem test_faulted_setx :
    after (step ({ State.reset with fault := true, faultCode := 1 }.withFetchWord 16 0x3014)) (fun t =>
      t.x == 128 && t.faultCode == 1 && t.inputs == []) = true := by decide

/-- V152. -/
theorem test_wide_setx :
    after (wideSetX 256 State.reset) (fun t => t.x == 128 && t.faultCode == 2) = true ∧
    after (wideSetX (-1) State.reset) (fun t => t.x == 128 && t.faultCode == 2) = true ∧
    after (wideSetX 255 State.reset) (fun t => t.x == 255 && !t.fault) = true := by decide

/-- V57 beyond the operand field: `TICK 255` then `TICK 1` as one `tickClock(256)`. -/
theorem test_wide_tick : after (wideTick 256 State.reset) (fun t => t.pulse == 1 && t.step == 21) = true := by decide

/-- The last byte of the DrumMap can be supplied before an `EVAL` (R42). -/
theorem test_load_last_byte :
    after (step { State.reset with inputs := [.loadDrumMap 2399 7] }) (fun t => t.DM 4 4 95 == 7) = true := by decide

/-- The observation of a run (R203): `SETMODE 1`, then `EVAL` as in V103 with `EU_T`; word 0x07 at position 1,
which counts from 0 (log 19), cursors (1, 1, 1). -/
theorem test_observe :
    (observe { State.reset with euclideanTable := euT } [0x8001, 0x1000]).map
      (fun o => (o.final.outputMode, o.final.eulideanStep, o.final.fault, o.events)) =
      some (.euclidean, ⟨1, 1, 1⟩, false, [(1, 7)]) := by decide

/-- A run with a reserved word raises a fault and gives no event word after it (R176, R203). -/
theorem test_observe_fault :
    (observe State.reset [0x5300, 0x1000]).map (fun o => (o.final.faultCode, o.events)) = some (1, []) := by decide

/-- The lines of R67, a comment, and the two pseudo-instructions of R68. -/
theorem test_text :
    parseLine "SETDENS 2, 255" = some [.setdens 2 255] ∧ parseLine "SETY 0x40 ; y" = some [.sety 64] ∧
    parseLine "SETRES 4PPQN" = some [.setres 0] ∧ parseLine "SETMODE EUCLIDEAN" = some [.setmode 1] ∧
    parseLine "PULSE" = some [.eval, .tick 1] ∧ parseLine "TICK" = some [.tick 1] := by decide

/-- Lines no command word can carry. -/
theorem test_text_refused :
    parseLine "SETX 256" = none ∧ parseLine "SETDENS 3, 0" = none ∧ parseLine "HALT" = none := by decide

theorem test_assemble : assemble ["SETX 10", "PULSE"] = some [0x300A, 0x1000, 0x2001] := by decide

/-! ### Witnesses: the hypotheses of the statements are met -/

/-- A state of a run: Grid mode, step 3, perturbations held, listed tables. -/
def running : State :=
  { State.reset with
    step := 3, pulse := 1, partPerturbation := ⟨254, 0, 7⟩, eulideanStep := ⟨9, 9, 9⟩, drumMap := [(0, 1), (2399, 2)]
    euclideanTable := euT, tablesLocked := true }

theorem witness_ResetInputRestoresDefaults : { running with inputs := [.reset] }.inputs = .reset :: [] := rfl

theorem witness_StepKeepsInvariant : running.Inv ∧ step running = .next running.quiet :=
  ⟨⟨by decide, by decide, by decide, by decide, by decide, by decide, by decide⟩, rfl⟩

theorem witness_StepRunsDecodedCommand :
    (running.offer 0x30FF).inputs = .command 0x30FF :: [] ∧ decode 0x30FF = .ok (.setx 255) := by decide

theorem witness_IdleStepKeepsState : running.inputs = [] := rfl

theorem witness_DecodeOfEncode : WellFormed (.setdens 2 255) ∧ WellFormed (.setres 2) := by decide

theorem witness_EncodeOfDecode : decode 0x52FF = .ok (.setdens 2 255) := by decide

/-- A command word handed to a machine without fault. -/
theorem witness_ReservedWordIsIllegalCommand :
    running.fault = false ∧ (running.offer 0x9000).inputs = .command 0x9000 :: [] := by decide

/-- Words of the first four classes of R65. -/
theorem witness_reserved_words_low :
    ReservedWord 0x0000 ∧ ReservedWord 0x9000 ∧ ReservedWord 0x1400 ∧ ReservedWord 0x1100 ∧ ReservedWord 0x5300 :=
  ⟨.inl (.inl rfl), .inl (.inr (by decide)), .inr (.inl (by decide)), .inr (.inr (.inl (by decide))),
    .inr (.inr (.inr (.inl (by decide))))⟩

/-- Words of the last three classes of R65, both cases of the sixth. -/
theorem witness_reserved_words_high :
    ReservedWord 0x1001 ∧ ReservedWord 0x7003 ∧ ReservedWord 0x7004 ∧ ReservedWord 0x8002 :=
  ⟨.inr (.inr (.inr (.inr (.inl (by decide))))), .inr (.inr (.inr (.inr (.inr (.inl ⟨rfl, .inr rfl⟩))))),
    .inr (.inr (.inr (.inr (.inr (.inl ⟨rfl, .inl (by decide)⟩))))),
    .inr (.inr (.inr (.inr (.inr (.inr (by decide))))))⟩

/-- A faulted machine. -/
def faulted : State := { running with fault := true, faultCode := 1 }

theorem witness_FaultedMachineIgnoresCommands :
    faulted.fault = true ∧ (faulted.offer 0x1000).inputs = .command 0x1000 :: [] ∧
    after (step { faulted with inputs := [.reset] }) (fun t => !t.fault) = true := by decide

theorem witness_FaultEntryKeepsFirstCode : running.fault = false ∧ faulted.fault = true := by decide

theorem witness_WideSettersReject :
    running.fault = false ∧ ¬((0 : Int) ≤ 256 ∧ (256 : Int) ≤ 255) ∧ ¬((0 : Int) ≤ -1 ∧ (-1 : Int) ≤ 255) ∧
    ((0 : Int) ≤ 0 ∧ (0 : Int) ≤ 255) ∧ ((0 : Int) ≤ 255 ∧ (255 : Int) ≤ 255) := by decide

/-- For `SetxWritesX`, `SetyWritesY`, `SetrandWritesRandomness`, `SetresWritesResolution`, `TickRunsTheLoop`,
`TickLeavesPulseBelowPps`, `EventWordRanges` and `InvariantViolationUnreachable`: a machine without fault. -/
theorem witness_good : running.fault = false ∧ State.reset.fault = false ∧ State.reset.randomness = 0 := by decide

theorem witness_SetdensWritesOneEntry : running.fault = false ∧ (1 : Channel) ≠ 2 := by decide

theorem witness_SetmodeWritesMode :
    State.reset.fault = false ∧ State.reset.pulse = 0 ∧ 2 ≤ (2 : Byte).toNat ∧ 2 ≤ (255 : Byte).toNat := by decide

theorem witness_SettersCommuteWithTick :
    WellFormed (.setdens 2 1) ∧ Instr.setdens 2 1 ≠ .eval ∧ (∀ k, Instr.setdens 2 1 ≠ .tick k) ∧
    (∀ r, Instr.setdens 2 1 ≠ .setres r) :=
  ⟨by decide, by decide, fun _ => Instr.noConfusion, fun _ => Instr.noConfusion⟩

theorem witness_TickRunsTheLoop : 1 ≤ 1 ∧ 31 < 32 ∧ 257 / 1 ≤ 257 ∧ 256 < 257 / 1 ∧ 0 < 3 / 3 := by decide

theorem witness_TickCornerCases :
    running.fault = false ∧ running.pulse.toNat < running.clockResolution.pps ∧
    (misaligned .ppqn4).clockResolution.pps ≤ (misaligned .ppqn4).pulse.toNat ∧
    (misaligned .ppqn4).clockResolution = .ppqn4 ∧ (96 : Byte).toNat = 32 * running.clockResolution.pps := by decide

theorem witness_TicksAddUp :
    (1 : Byte).toNat + (2 : Byte).toNat = (3 : Byte).toNat ∧ (0 : Byte).toNat + (255 : Byte).toNat = (255 : Byte).toNat := by
  decide

theorem witness_RepeatedTickPosition :
    State.reset.fault = false ∧ State.reset.pulse = 0 ∧ State.reset.step = 0 ∧
    State.reset.clockResolution = .ppqn24 ∧ { State.reset with clockResolution := .ppqn8 }.clockResolution = .ppqn8 ∧
    { State.reset with clockResolution := .ppqn4 }.clockResolution = .ppqn4 := by decide

theorem witness_ResolutionChangeMisaligns :
    State.reset.fault = false ∧ State.reset.pulse = 0 ∧ running.fault = false ∧ running.pulse = 1 ∧
    (misaligned .ppqn24).fault = false ∧ (misaligned .ppqn24).pulse = 2 ∧
    after (exec (.setres 0) running) (fun _ => true) = true := by decide

theorem witness_MixProperties :
    (1 : Byte).toNat ≤ (2 : Byte).toNat ∧ (0 : Byte).toNat ≤ (255 : Byte).toNat ∧ (255 : Byte).toNat ≤ (255 : Byte).toNat := by
  decide

theorem witness_LevelAtLatticePoints : (0 : Byte).toNat % 64 = 0 ∧ (192 : Byte).toNat % 64 = 0 := by decide

theorem witness_FlatMapIsLoweredByTwo :
    ∀ i ∈ [nearNode 255, farNode 255], ∀ j ∈ [nearNode 0, farNode 0],
      (fun _ _ _ => 200 : Fin 5 → Fin 5 → Fin 96 → Byte) i j (nodeOffset 2 31) = 200 := fun _ _ _ _ => rfl

theorem witness_DrumMapAddressesAreOneToOne :
    drumMapAddr 4 4 95 = drumMapAddr 4 4 95 ∧ 0 < drumMapSize ∧ 2399 < drumMapSize := by decide

theorem witness_ScaleTruncates : 1 ≤ (1 : Byte).toNat ∧ 1 ≤ (255 : Byte).toNat := by decide

theorem witness_TriggerComparison : (addPerturbation 127 0).toNat = 255 - (128 : Byte).toNat := by decide

theorem witness_AccentComparison : (63 : Byte).toNat ≤ 63 ∧ (0 : Byte).toNat ≤ 63 := by decide

/-- At `step == 0` and elsewhere; also for `DrawsOnlyAtReroll` and `EventWordRanges`. -/
theorem witness_GridEvalResult :
    p2.fault = false ∧ p2.pulse = 0 ∧ p2.outputMode = .grid ∧ p2.step = 0 ∧
    { p2 with step := 3 }.fault = false ∧ { p2 with step := 3 }.pulse = 0 ∧ { p2 with step := 3 }.outputMode = .grid ∧
    { p2 with step := 3 }.step ≠ 0 := by decide

theorem witness_EvalOffBoundaryReturnsZero :
    running.fault = false ∧ running.pulse ≠ 0 ∧ (misaligned .ppqn4).fault = false ∧ (misaligned .ppqn4).pulse ≠ 0 := by decide

theorem witness_RepeatedEvalIsStable :
    running.pulse ≠ 0 ∧ { p2 with step := 3 }.outputMode = .grid ∧ { p2 with step := 3 }.step ≠ 0 := by decide

/-- Density 2 in a machine without perturbation, at step 0 and at step 3. -/
theorem witness_LowDensityNeverTriggers :
    let s := { State.reset with density := ⟨2, 128, 128⟩ }
    s.fault = false ∧ s.pulse = 0 ∧ s.outputMode = .grid ∧ s.partPerturbation.get 0 = 0 ∧ s.step = 0 ∧
    s.randomness = 0 ∧ (s.density.get 0).toNat ≤ 2 ∧ { s with step := 3 }.step ≠ 0 := by decide

/-- Two states that differ in channel 1 only, at the step that re-rolls. -/
theorem witness_ChannelsAreIndependent :
    let s' := { p2 with density := ⟨200, 1, 255⟩, partPerturbation := ⟨0, 9, 0⟩ }
    p2.fault = false ∧ s'.fault = false ∧ p2.pulse = 0 ∧ s'.pulse = 0 ∧ p2.outputMode = .grid ∧
    s'.outputMode = .grid ∧ s'.x = p2.x ∧ s'.y = p2.y ∧ s'.step = p2.step ∧ s'.randomness = p2.randomness ∧
    s'.density.get 0 = p2.density.get 0 ∧ s'.partPerturbation.get 0 = p2.partPerturbation.get 0 ∧
    s'.draw 0 = p2.draw 0 ∧ ∀ i j, s'.DM i j (nodeOffset 0 p2.step) = p2.DM i j (nodeOffset 0 p2.step) :=
  ⟨rfl, rfl, rfl, rfl, rfl, rfl, rfl, rfl, rfl, rfl, rfl, rfl, rfl, fun _ _ => rfl⟩

theorem witness_RandomnessActsOnlyAtReroll :
    (∀ u, Instr.setres 1 ≠ .setrand u) ∧ (∀ u, Instr.eval ≠ .setrand u) ∧ State.reset.fault = false ∧
    ¬(Instr.setres 1 = .eval ∧ p2.fault = false ∧ p2.pulse = 0 ∧ p2.outputMode = .grid ∧ p2.step = 0) ∧
    ¬(Instr.eval = .eval ∧ running.fault = false ∧ running.pulse = 0 ∧ running.outputMode = .grid ∧ running.step = 0) ∧
    ¬(Instr.eval = .eval ∧ p3.fault = false ∧ p3.pulse = 0 ∧ p3.outputMode = .grid ∧ p3.step = 0) ∧
    ¬(Instr.eval = .eval ∧ faulted.fault = false ∧ faulted.pulse = 0 ∧ faulted.outputMode = .grid ∧ faulted.step = 0) :=
  ⟨fun _ => Instr.noConfusion, fun _ => Instr.noConfusion, by decide, by decide, by decide, by decide, by decide⟩

/-- Also for `EuclideanPeriodicity`, `ModesReadTheirOwnState` and `EventWordRanges`. -/
theorem witness_EuclideanEvalResult :
    p3.fault = false ∧ p3.pulse = 0 ∧ p3.outputMode = .euclidean ∧ p2.outputMode = .grid ∧ 3 ≤ 7 := by decide

/-- `TICK` is none of the setters, `SETX` is no `TICK`, and an `EVAL` off the boundary is neither evaluation. -/
theorem witness_OnlyListedCommandsWrite :
    (∀ v, Instr.tick 1 ≠ .setx v) ∧ (∀ v, Instr.tick 1 ≠ .sety v) ∧
    (∀ v, Instr.tick 1 ≠ .setdens (BitVec.ofNat 2 (2 : Channel).val) v) ∧ (∀ v, Instr.tick 1 ≠ .setrand v) ∧
    (∀ m, Instr.tick 1 ≠ .setmode m) ∧ (∀ r, Instr.tick 1 ≠ .setres r) ∧ (∀ n, Instr.setx 1 ≠ .tick n) ∧
    ¬(Instr.eval = .eval ∧ running.pulse = 0 ∧ running.outputMode = .grid ∧ running.step = 0) ∧
    ¬(Instr.eval = .eval ∧ running.pulse = 0 ∧ running.outputMode = .euclidean) ∧ WellFormed (.tick 1) := by
  refine ⟨?_, ?_, ?_, ?_, ?_, ?_, ?_, by decide, by decide, by decide⟩ <;> intro _ h <;> cases h

theorem witness_TablesFixedDuringRun :
    after (exec .eval running) (fun _ => true) = true ∧ after (step running) (fun _ => true) = true ∧
    running.tablesLocked = true ∧ (∀ rest, running.inputs ≠ .reset :: rest) :=
  ⟨by decide, by decide, by decide, fun _ h => by cases h⟩

theorem witness_SuppliedEntryIsRead :
    State.reset.tablesLocked = false ∧
    { State.reset with inputs := [.loadDrumMap (drumMapAddr 4 4 95) 7] }.inputs =
      .loadDrumMap (drumMapAddr 4 4 95) 7 :: [] ∧
    { State.reset with inputs := [.loadEuclidean (255 : Fin 256).val 7] }.inputs =
      .loadEuclidean (255 : Fin 256).val 7 :: [] ∧
    ¬((4 : Fin 5) = 4 ∧ (4 : Fin 5) = 4 ∧ (94 : Fin 96) = 95) ∧ (0 : Fin 256) ≠ 255 := by decide

theorem witness_TableChangeStops :
    { running with inputs := [.loadDrumMap 2399 7] }.inputs = .loadDrumMap 2399 7 :: [] ∧ 2399 < 2400 ∧
    running.tablesLocked = true ∧ { running with inputs := [.loadDrumMap 2400 7] }.inputs = .loadDrumMap 2400 7 :: [] ∧
    2400 ≤ 2400 ∧ { running with inputs := [.loadEuclidean 255 7] }.inputs = .loadEuclidean 255 7 :: [] ∧ 255 < 256 ∧
    { running with inputs := [.loadEuclidean 256 7] }.inputs = .loadEuclidean 256 7 :: [] ∧ 256 ≤ 256 := by decide

/-- The two words of a good run, for the right side of the equivalence. -/
theorem witness_GoodRunsAreRunsWithoutReservedWords : ¬ReservedWord 0x8001 ∧ ¬ReservedWord 0x1000 := by
  constructor <;> simp [ReservedWord, ReservedFields]

end Sys2Proof.Tests
end

section
/-! PROOF. Who writes what (10_state.md R32): each command's effect is said once, and what it keeps is read off it. -/

namespace Sys2Proof.Machine

/-! ### Operand codes -/

/-- A 2-bit `ch` field names one of the three channels, or is 3 and names none (R62, R154). -/
theorem channelOf_cases (ch : BitVec 2) :
    (∃ c : Channel, ch = BitVec.ofNat 2 c.val ∧ channelOf ch = some c) ∨ (ch = 3#2 ∧ channelOf ch = none) := by
  revert ch
  decide

/-- A 2-bit resolution code names a resolution, or is 3 and reserved (R64). -/
theorem resolutionOf_cases (r : BitVec 2) :
    (∃ res, resolutionOf r = some res) ∨ (r = 3#2 ∧ resolutionOf r = none) := by
  cases h : resolutionOf r with
  | some res => exact .inl ⟨res, rfl⟩
  | none => exact .inr ⟨(by decide : ∀ r, resolutionOf r = none → r = 3#2) r h, rfl⟩

/-! ### The Euclidean lookup never fails (R140, R147) -/

theorem euclideanLength_mem (density : Byte) : 1 ≤ euclideanLength density ∧ euclideanLength density ≤ 8 := by
  have hlt := density.isLt
  rw [euclideanLength, Nat.shiftRight_eq_div_pow]
  omega

theorem State.pattern_ne_none (s : State) (c : Channel) : s.pattern c ≠ none := by
  simp [State.pattern, patternOfLength, euclideanLength_mem]

/-- A Euclidean evaluation advances the cursors and answers a word; it raises nothing (R144, R147). -/
theorem evaluateEuclidean_eq_respond (s : State) : ∃ e, evaluateEuclidean s = s.advanceCursors.respond e := by
  rcases evaluateEuclidean_cases s with ⟨_, _, _, _, _, _, he⟩ | ⟨hnone, _⟩
  · exact ⟨_, he⟩
  · simp [State.pattern_ne_none] at hnone

/-! ### What each command does -/

/-- The three effects `EVAL` can have beside its event word: the re-roll, the cursor advance, or none, each under the
condition that R32 lists. -/
theorem evaluate_effects (s : State) : ∃ e,
    ((s.pulse = 0#2 ∧ s.outputMode = .grid ∧ s.step = 0#5) ∧ s.evaluate = s.reroll.respond e) ∨
    ((s.pulse = 0#2 ∧ s.outputMode = .euclidean) ∧ s.evaluate = s.advanceCursors.respond e) ∨
    s.evaluate = s.respond e := by
  rcases evaluate_cases s with ⟨_, he⟩ | ⟨hp, hm, he⟩ | ⟨hp, hm, he⟩
  · exact ⟨_, .inr (.inr he)⟩
  · rcases perturbed_cases s with ⟨hs, hr⟩ | ⟨_, hr⟩
    · exact ⟨_, .inl ⟨⟨hp, hm, hs⟩, by rw [he, evaluateDrums, hr]⟩⟩
    · exact ⟨_, .inr (.inr (by rw [he, evaluateDrums, hr]))⟩
  · obtain ⟨e, hr⟩ := evaluateEuclidean_eq_respond s
    exact ⟨e, .inr (.inl ⟨⟨hp, hm⟩, he.trans hr⟩)⟩

/-- While `fault == 1` every command is completed with no effect (R176). -/
theorem exec_of_fault {s : State} (h : s.fault = true) (i : Instr) : exec i s = .next s.ack := by
  cases i <;>
    simp only [exec, execEval, execTick, execSetx, execSety, execSetdens, execSetrand, execSetres, execSetmode,
      command_of_fault h]

section
variable {s : State} (h : s.fault = false)
include h

theorem exec_eval_of_good : exec .eval s = .next s.evaluate := by
  rw [exec, execEval, command_of_good h]

theorem exec_tick_of_good (n : Byte) : exec (.tick n) s = .next (s.tickClock n.toNat).ack := by
  rw [exec, execTick, command_of_good h]

theorem exec_setx_of_good (v : Byte) : exec (.setx v) s = .next { s with x := v }.ack := by
  rw [exec, execSetx, command_of_good h]

theorem exec_sety_of_good (v : Byte) : exec (.sety v) s = .next { s with y := v }.ack := by
  rw [exec, execSety, command_of_good h]

theorem exec_setrand_of_good (v : Byte) : exec (.setrand v) s = .next { s with randomness := v }.ack := by
  rw [exec, execSetrand, command_of_good h]

theorem exec_setmode_of_good (m : BitVec 1) : exec (.setmode m) s = .next { s with outputMode := modeOf m }.ack := by
  rw [exec, execSetmode, command_of_good h]

theorem exec_setdens_of_channel {ch : BitVec 2} {c : Channel} (hc : channelOf ch = some c) (v : Byte) :
    exec (.setdens ch v) s = .next { s with density := s.density.set c v }.ack := by
  simp [exec, execSetdens, command_of_good h, hc]

theorem exec_setdens_of_no_channel {ch : BitVec 2} (hc : channelOf ch = none) (v : Byte) :
    exec (.setdens ch v) s = .next (s.raise .illegalCommand) := by
  simp [exec, execSetdens, command_of_good h, hc]

theorem exec_setres_of_resolution {r : BitVec 2} {res : ClockResolution} (hr : resolutionOf r = some res) :
    exec (.setres r) s = .next { s with clockResolution := res }.ack := by
  simp [exec, execSetres, command_of_good h, hr]

theorem exec_setres_of_no_resolution {r : BitVec 2} (hr : resolutionOf r = none) :
    exec (.setres r) s = .next (s.raise .illegalCommand) := by
  simp [exec, execSetres, command_of_good h, hr]

end

/-! ### The obligation -/

/-- Settles O54: a faulted machine keeps every field; otherwise the field lemmas of the command's one effect say which
fields it keeps. The two ill-formed terms raise a fault, which writes `fault` and `faultCode` only. -/
theorem onlyListedCommandsWrite : Obligations.OnlyListedCommandsWrite := by
  intro i s
  cases hf : s.fault with
  | true => exact ⟨s.ack, exec_of_fault hf i, by simp [hf]⟩
  | false =>
    cases i with
    | eval =>
      refine ⟨_, exec_eval_of_good hf, ?_⟩
      obtain ⟨e, ⟨hreroll, he⟩ | ⟨hadvance, he⟩ | he⟩ := evaluate_effects s
      · simp [he, hf, hreroll]
      · simp [he, hf, hadvance]
      · simp [he, hf]
    | tick n => exact ⟨_, exec_tick_of_good hf n, by simp [hf]⟩
    | setx v => exact ⟨_, exec_setx_of_good hf v, by simp [hf]⟩
    | sety v => exact ⟨_, exec_sety_of_good hf v, by simp [hf]⟩
    | setdens ch v =>
      rcases channelOf_cases ch with ⟨c, hch, hc⟩ | ⟨hch, hc⟩
      · have other_kept (d : Channel) (hd : ∀ u, Instr.setdens ch v ≠ .setdens (BitVec.ofNat 2 d.val) u) :
            (s.density.set c v).get d = s.density.get d :=
          PerChannel.get_set_other _ v fun hdc => hd v (by rw [hdc, hch])
        exact ⟨_, exec_setdens_of_channel hf hc v, by simpa [hf] using other_kept⟩
      · exact ⟨_, exec_setdens_of_no_channel hf hc v, by simp [Instr.wellFormed, hch]⟩
    | setrand v => exact ⟨_, exec_setrand_of_good hf v, by simp [hf]⟩
    | setres r =>
      rcases resolutionOf_cases r with ⟨res, hr⟩ | ⟨hr3, hr⟩
      · exact ⟨_, exec_setres_of_resolution hf hr, by simp [hf]⟩
      · exact ⟨_, exec_setres_of_no_resolution hf hr, by simp [Instr.wellFormed, hr3]⟩
    | setmode m => exact ⟨_, exec_setmode_of_good hf m, by simp [hf]⟩

end Sys2Proof.Machine
end

section
/-! PROOF. `EVAL` off the step boundary (30_encoding.md R72). -/

namespace Sys2Proof.Machine

/-- Of the three evaluations of R150 only the one that answers 0 is left where `pulse != 0`. -/
theorem evaluate_off_boundary {s : State} (hp : s.pulse ≠ 0#2) : s.evaluate = s.respond 0#8 := by
  rcases evaluate_cases s with ⟨_, he⟩ | ⟨hp0, _⟩ | ⟨hp0, _⟩
  · exact he
  · exact absurd hp0 hp
  · exact absurd hp0 hp

/-- Settles O43: a machine without fault evaluates, and off the boundary the evaluation only answers the word 0. -/
theorem evalOffBoundaryReturnsZero : Obligations.EvalOffBoundaryReturnsZero := by
  intro s hf hp
  rw [exec_eval_of_good hf, evaluate_off_boundary hp, State.respond]

end Sys2Proof.Machine
end

section
/-! PROOF. `mix` and the Interpolator on numbers (40_interpolator.md R80 to R87). -/

namespace Sys2Proof.Machine

/-! ### `mix` (R80) -/

/-- The weights add to 255, so the exact sum is at most 255 times the largest byte. -/
theorem mixSum_le (lo hi b : Byte) : mixSum lo hi b ≤ 65025 := by
  have hb := b.isLt
  have hhi : hi.toNat * b.toNat ≤ 255 * b.toNat := Nat.mul_le_mul_right _ (by omega)
  have hlo : lo.toNat * (255 - b.toNat) ≤ 255 * (255 - b.toNat) := Nat.mul_le_mul_right _ (by omega)
  rw [mixSum]
  omega

/-- The shifted sum fits a byte: nothing is lost but the fraction. -/
theorem mix_toNat (lo hi b : Byte) : (mix lo hi b).toNat = mixSum lo hi b / 256 := by
  have hsum := mixSum_le lo hi b
  rw [mix, BitVec.toNat_ofNat, Nat.shiftRight_eq_div_pow]
  omega

theorem mix_toNat_le (lo hi b : Byte) : (mix lo hi b).toNat ≤ 254 := by
  have hsum := mixSum_le lo hi b
  rw [mix_toNat]
  omega

/-! ### Nodes, byte offset and balance (R82 to R85) -/

theorem cellIndex_val (x : Byte) : (cellIndex x).val = x.toNat / 64 :=
  Nat.shiftRight_eq_div_pow x.toNat 6

theorem nearNode_eq_ofNat (x : Byte) : nearNode x = Fin.ofNat 5 (x.toNat / 64) := by
  apply Fin.ext
  simp only [nearNode, Fin.val_castSucc, cellIndex_val, Fin.val_ofNat]
  omega

theorem farNode_eq_ofNat (x : Byte) : farNode x = Fin.ofNat 5 (min (x.toNat / 64 + 1) 4) := by
  apply Fin.ext
  simp only [farNode, cellIndex_val, Fin.val_ofNat]
  omega

theorem nodeOffset_eq_ofNat (c : Channel) (st : BitVec 5) :
    nodeOffset c st = Fin.ofNat 96 (c.val * 32 + st.toNat) :=
  Fin.ext (Nat.mod_eq_of_lt (nodeOffset c st).isLt).symm

/-- The mask keeps the low six bits, and the shift by two loses none of them. -/
theorem balance_toNat (x : Byte) : (balance x).toNat = x.toNat % 64 * 4 := by
  have hmask : x.toNat &&& 63 = x.toNat % 64 := Nat.and_two_pow_sub_one_eq_mod x.toNat 6
  simp only [balance, BitVec.toNat_shiftLeft, BitVec.toNat_and, BitVec.toNat_ofNat, Nat.reducePow, Nat.reduceMod, hmask,
    Nat.shiftLeft_eq]
  omega

/-! ### The blends (R86, R87) -/

/-- Two horizontal blends of the corner bytes, then one vertical blend of their results, on numbers. -/
theorem blend_toNat (a b c d x y : Byte) :
    let xb := x.toNat % 64 * 4
    let yb := y.toNat % 64 * 4
    let top := (b.toNat * xb + a.toNat * (255 - xb)) / 256
    let bottom := (d.toNat * xb + c.toNat * (255 - xb)) / 256
    (blend a b c d x y).toNat = (bottom * yb + top * (255 - yb)) / 256 := by
  simp only [blend, mix_toNat, mixSum, balance_toNat]

/-! ### The obligations -/

/-- Settles O30: `mixSum` is the sum the statement writes out. -/
theorem mixFormula : Obligations.MixFormula :=
  ⟨fun lo hi b => ⟨mixSum_le lo hi b, mix_toNat lo hi b, mix_toNat_le lo hi b⟩, by decide⟩

/-- Settles O32: the corners and the offset are the numbers of R82 to R84, and the rest is the blend of the four bytes
read there. -/
theorem interpolatorFollowsSteps : Obligations.InterpolatorFollowsSteps := by
  refine ⟨fun dm x y st ch => ?_, by decide⟩
  rw [interpolator, nearNode_eq_ofNat, nearNode_eq_ofNat, farNode_eq_ofNat, farNode_eq_ofNat, nodeOffset_eq_ofNat]
  exact blend_toNat _ _ _ _ x y

end Sys2Proof.Machine
end

section
/-! PROOF. The pulse counter after `TICK` (41_clock_divider.md R103). -/

namespace Sys2Proof.Machine

/-- `pps` is a divisor that never is 0, and its remainders fit the 2-bit `pulse` register (R23). -/
theorem ClockResolution.pps_mem (r : ClockResolution) : 1 ≤ r.pps ∧ r.pps ≤ 3 := by
  cases r <;> decide

/-- The remainder of R102 is stored whole: the register cuts nothing off. -/
theorem State.tickClock_pulse_toNat (s : State) (n : Nat) :
    (s.tickClock n).pulse.toNat = (s.pulse.toNat + n) % s.clockResolution.pps := by
  obtain ⟨hpos, hle⟩ := s.clockResolution.pps_mem
  have hlt : (s.pulse.toNat + n) % s.clockResolution.pps < s.clockResolution.pps := Nat.mod_lt _ hpos
  exact (BitVec.toNat_ofNat _ _).trans (Nat.mod_eq_of_lt (by omega))

theorem State.tickClock_pulse_lt_pps (s : State) (n : Nat) :
    (s.tickClock n).pulse.toNat < s.clockResolution.pps := by
  rw [State.tickClock_pulse_toNat]
  exact Nat.mod_lt _ s.clockResolution.pps_mem.1

/-- Settles O25: `pulse` is a remainder by `pps`, whatever it was before, and the acknowledgement keeps it. -/
theorem tickLeavesPulseBelowPps : Obligations.TickLeavesPulseBelowPps := by
  intro s n hf
  exact ⟨(s.tickClock n.toNat).ack, exec_tick_of_good hf n, by simp, by simpa using s.tickClock_pulse_lt_pps n.toNat⟩

end Sys2Proof.Machine
end

section
/-! PROOF. The threshold comparator on numbers, and Grid-mode `EVAL` on the step boundary (42_threshold_comparator.md
R120 to R127). -/

namespace Sys2Proof.Machine

/-! ### `scale` (R121) -/

theorem byte_mul_byte_le (a b : Byte) : a.toNat * b.toNat ≤ 65025 :=
  Nat.mul_le_mul (Nat.le_of_lt_succ a.isLt) (Nat.le_of_lt_succ b.isLt)

/-- The shifted product fits a byte: nothing is lost but the fraction. -/
theorem scale_toNat (r q : Byte) : (scale r q).toNat = r.toNat * q.toNat / 256 := by
  have hprod := byte_mul_byte_le r q
  rw [scale, BitVec.toNat_ofNat, Nat.shiftRight_eq_div_pow]
  omega

theorem scale_toNat_le (r q : Byte) : (scale r q).toNat ≤ 254 := by
  have hprod := byte_mul_byte_le r q
  rw [scale_toNat]
  omega

theorem scale_zero_right (r : Byte) : scale r 0#8 = 0#8 := by simp [scale]

theorem scale_zero_left (q : Byte) : scale 0#8 q = 0#8 := by simp [scale]

/-! ### The saturating add and the two comparisons (R122 to R125) -/

/-- The two branches of R122 are one minimum. -/
theorem addPerturbation_toNat (level p : Byte) :
    (addPerturbation level p).toNat = min (level.toNat + p.toNat) 255 := by
  rw [addPerturbation]
  split <;> simp only [BitVec.toNat_ofNat] <;> omega

theorem laneTrigger_iff (level p density : Byte) :
    laneTrigger level p density = true ↔ 255 - density.toNat < min (level.toNat + p.toNat) 255 := by
  rw [laneTrigger, decide_eq_true_iff, addPerturbation_toNat]

theorem laneAccent_iff (level p density : Byte) :
    laneAccent level p density = true ↔
      255 - density.toNat < min (level.toNat + p.toNat) 255 ∧ 192 < min (level.toNat + p.toNat) 255 := by
  rw [laneAccent, Bool.and_eq_true, laneTrigger_iff, decide_eq_true_iff, addPerturbation_toNat]

/-! ### The bits of the Grid-mode word (R126) -/

@[simp] theorem bitAt_getElem (b : Bool) (k i : Nat) (hi : i < 8) : (bitAt b k)[i] = (b && decide (i = k)) := by
  cases b
  · simp [bitAt]
  · simp [bitAt, ← BitVec.twoPow_eq, eq_comm]

section
variable (trig acc : PerChannel Bool) (st : BitVec 5)

/-- No two of the parts that compose the word share a bit. -/
theorem gridModeWord_trigger (c : Channel) : (gridModeWord trig acc st).getLsbD c.val = trig.get c := by
  fin_cases c <;> simp [gridModeWord, triggerBits, accentBits, PerChannel.get]

theorem gridModeWord_accent (c : Channel) : (gridModeWord trig acc st).getLsbD (c.val + 3) = acc.get c := by
  fin_cases c <;> simp [gridModeWord, triggerBits, accentBits, PerChannel.get]

theorem gridModeWord_clock : (gridModeWord trig acc st).getLsbD 6 = true := by
  simp [gridModeWord]

theorem gridModeWord_reset : (gridModeWord trig acc st).getLsbD 7 = true ↔ st = 0#5 := by
  simp [gridModeWord, triggerBits, accentBits]

end

/-! ### The state that a Grid-mode evaluation reads (R120, R127) -/

/-- The re-roll, where it happens, writes the perturbations and takes the draws; it writes nothing else. -/
theorem State.perturbed_eq (s : State) :
    s.perturbed = { s with
      partPerturbation := s.perturbed.partPerturbation
      rndIn := s.perturbed.rndIn, rolls := s.perturbed.rolls } := by
  rcases perturbed_cases s with ⟨_, hr⟩ | ⟨_, hr⟩
  · rw [hr, State.reroll, State.drawsTaken]
  · rw [hr]

@[simp] theorem State.perturbed_density (s : State) : s.perturbed.density = s.density := by
  rw [s.perturbed_eq]

@[simp] theorem State.perturbed_step (s : State) : s.perturbed.step = s.step := by
  rw [s.perturbed_eq]

/-- The Interpolator reads none of the fields that the re-roll writes. -/
@[simp] theorem State.perturbed_level (s : State) (c : Channel) : s.perturbed.level c = s.level c := by
  rw [s.perturbed_eq]
  rfl

theorem State.perturbed_respond_eq (s : State) (e : Byte) :
    s.perturbed.respond e = { s with
      partPerturbation := s.perturbed.partPerturbation, evt := e, rspValid := true, evtValid := true
      rndIn := s.perturbed.rndIn, rolls := s.perturbed.rolls } := by
  conv_lhs => rw [s.perturbed_eq, State.respond]

theorem State.perturbed_partPerturbation_toNat (s : State) (c : Channel) :
    (s.perturbed.partPerturbation.get c).toNat =
      if s.step = 0#5 then (s.draw c).toNat * s.randomness.toNat / 256 else (s.partPerturbation.get c).toNat := by
  rcases perturbed_cases s with ⟨hs, hr⟩ | ⟨hs, hr⟩
  · simp [hr, hs, scale_toNat]
  · simp [hr, hs]

theorem State.gridEvent_trigger (s : State) (c : Channel) : s.gridEvent.getLsbD c.val = s.gridTrigger c := by
  rw [State.gridEvent, gridModeWord_trigger, PerChannel.get_ofFn]

theorem State.gridEvent_accent (s : State) (c : Channel) : s.gridEvent.getLsbD (c.val + 3) = s.gridAccent c := by
  rw [State.gridEvent, gridModeWord_accent, PerChannel.get_ofFn]

/-- Of the three evaluations of R150 the Grid-mode one is taken. -/
theorem exec_eval_of_grid {s : State} (hf : s.fault = false) (hp : s.pulse = 0#2) (hm : s.outputMode = .grid) :
    exec .eval s = .next (s.perturbed.respond s.perturbed.gridEvent) := by
  rw [exec_eval_of_good hf]
  rcases evaluate_cases s with ⟨hp', _⟩ | ⟨_, _, he⟩ | ⟨_, hm', _⟩
  · exact absurd hp hp'
  · rw [he, evaluateDrums]
  · simp [hm] at hm'

/-! ### The obligations -/

/-- Settles O37: each part is a fact about the product of two bytes. -/
theorem scaleTruncates : Obligations.ScaleTruncates := by
  refine ⟨fun r q => ⟨scale_toNat r q, byte_mul_byte_le r q, scale_toNat_le r q⟩, scale_zero_right, scale_zero_left,
    fun r hr => ?_, by decide⟩
  have hlt := r.isLt
  simp only [scale_toNat, BitVec.toNat_ofNat]
  omega

/-- Settles O41: the bits of the word are the comparisons made on the re-rolled state, which differs from `s` in the
perturbations and the random source only. -/
theorem gridEvalResult : Obligations.GridEvalResult := by
  refine ⟨fun s hf hp hm => ⟨_, exec_eval_of_grid hf hp hm, ?frame, ?perturbation, ?lanes, ?clock, ?reset⟩, by decide⟩
  case frame => exact s.perturbed_respond_eq _
  case perturbation => exact s.perturbed_partPerturbation_toNat
  case lanes =>
    intro c
    simp only [State.respond_evt, State.respond_partPerturbation, State.gridEvent_trigger, State.gridEvent_accent,
      State.gridTrigger, State.gridAccent, State.perturbed_level, State.perturbed_density, laneTrigger_iff,
      laneAccent_iff]
    exact ⟨.rfl, .rfl⟩
  case clock => rw [State.respond_evt, State.gridEvent, gridModeWord_clock]
  case reset => rw [State.respond_evt, State.gridEvent, gridModeWord_reset, State.perturbed_step]

end Sys2Proof.Machine
end

section
/-! PROOF. Euclidean-mode evaluation on the step boundary (43_euclidean.md R140 to R144). -/

namespace Sys2Proof.Machine

/-! ### Length and pattern (R140, R141) -/

/-- The shift by five is a division by 32. -/
theorem euclideanLength_eq (d : Byte) : euclideanLength d = d.toNat / 32 + 1 := by
  rw [euclideanLength, Nat.shiftRight_eq_div_pow]

theorem patternOfLength_succ (eu : Fin 256 → Mask) {n : Nat} (hn : n < 8) :
    patternOfLength eu (n + 1) = some (eu (Fin.ofNat 256 n)) := by
  have hidx : (⟨n, by omega⟩ : Fin 256) = Fin.ofNat 256 n := Fin.ext (Nat.mod_eq_of_lt (by omega)).symm
  rw [patternOfLength, dif_pos ⟨by omega, by omega⟩, ← hidx]
  rfl

/-- The pattern is the word at density's top three bits: the `- 1` of R141 undoes the `+ 1` of R140. -/
theorem State.pattern_eq (s : State) (c : Channel) :
    s.pattern c = some (s.EU (Fin.ofNat 256 ((s.density.get c).toNat / 32))) := by
  have hlt := (s.density.get c).isLt
  rw [State.pattern, euclideanLength_eq, patternOfLength_succ s.EU (by omega)]

/-! ### The word (R71) and the cursors (R143) -/

theorem euclideanModeWord_trigger (trig : PerChannel Bool) (c : Channel) :
    (euclideanModeWord trig).getLsbD c.val = trig.get c := by
  fin_cases c <;> simp [euclideanModeWord, triggerBits, PerChannel.get]

theorem euclideanModeWord_above_triggers (trig : PerChannel Bool) {k : Nat} (hk : 3 ≤ k) :
    (euclideanModeWord trig).getLsbD k = false := by
  by_cases h8 : k < 8
  · have hne : k ≠ 0 ∧ k ≠ 1 ∧ k ≠ 2 := by omega
    simp [euclideanModeWord, triggerBits, BitVec.getLsbD_eq_getElem h8, hne]
  · exact BitVec.getLsbD_of_ge _ _ (by omega)

theorem State.advanceCursors_cursor_toNat (s : State) (c : Channel) :
    (s.advanceCursors.eulideanStep.get c).toNat = ((s.eulideanStep.get c).toNat + 1) % 32 := by
  simp [State.advanceCursors]

/-! ### The evaluation (R142, R144) -/

/-- The trigger of channel `c` in Euclidean mode: the bit at the cursor of the pattern's word (R142). -/
def State.euclideanTrigger (s : State) (c : Channel) : Bool :=
  patternBit (s.EU (Fin.ofNat 256 ((s.density.get c).toNat / 32))) (s.eulideanStep.get c)

/-- All three lookups succeed, so the evaluation answers the three triggers and advances the cursors. -/
theorem evaluateEuclidean_eq (s : State) :
    evaluateEuclidean s = s.advanceCursors.respond (euclideanModeWord (PerChannel.ofFn s.euclideanTrigger)) := by
  simp only [evaluateEuclidean, State.pattern_eq, PerChannel.ofFn, State.euclideanTrigger]

/-- Of the three evaluations of R150 the Euclidean-mode one is taken. -/
theorem exec_eval_of_euclidean {s : State} (hf : s.fault = false) (hp : s.pulse = 0#2)
    (hm : s.outputMode = .euclidean) :
    exec .eval s =
      .next (s.advanceCursors.respond (euclideanModeWord (PerChannel.ofFn s.euclideanTrigger))) := by
  rw [exec_eval_of_good hf]
  rcases evaluate_cases s with ⟨hp', _⟩ | ⟨_, hm', _⟩ | ⟨_, _, he⟩
  · exact absurd hp hp'
  · simp [hm] at hm'
  · rw [he, evaluateEuclidean_eq]

/-! ### The obligations -/

/-- Settles O50: the word's bits are the triggers of the state before the advance, which writes the cursors only. -/
theorem euclideanEvalResult : Obligations.EuclideanEvalResult := by
  intro s hf hp hm
  refine ⟨_, exec_eval_of_euclidean hf hp hm, ?frame, ?cursors, ?triggers, ?others⟩
  case frame => rfl
  case cursors => exact s.advanceCursors_cursor_toNat
  case triggers =>
    intro c
    rw [State.respond_evt, euclideanModeWord_trigger, PerChannel.get_ofFn, State.euclideanTrigger, patternBit]
  case others =>
    intro k hk
    rw [State.respond_evt, euclideanModeWord_above_triggers _ hk]

/-- Settles O49: each part is arithmetic on the quotient by 32 of a byte; the reset density is 128. -/
theorem euclideanLengthRanges : Obligations.EuclideanLengthRanges := by
  intro d
  obtain ⟨hpos, hle⟩ := euclideanLength_mem d
  refine ⟨euclideanLength_eq d, hpos, hle, fun n => ?_, by decide⟩
  rw [euclideanLength_eq]
  omega

end Sys2Proof.Machine
end

section
/-! PROOF. The setters of the position (44_dispatch_and_setters.md R152, R153). -/

namespace Sys2Proof.Machine

/-- Settles O17: the acknowledgement writes the strobes only; the example is one word and two lookups on bytes. -/
theorem setxWritesX : Obligations.SetxWritesX := by
  refine ⟨fun s v hf => ?result, ?word, ?column, ?xBalance⟩
  case result => rw [exec_setx_of_good hf, State.ack]
  case word => decide
  case column => exact cellIndex_val 255#8
  case xBalance => decide

/-- Settles O18: the acknowledgement writes the strobes only; the example is one word and two lookups on bytes. -/
theorem setyWritesY : Obligations.SetyWritesY := by
  refine ⟨fun s v hf => ?result, ?word, ?row, ?yBalance⟩
  case result => rw [exec_sety_of_good hf, State.ack]
  case word => decide
  case row => exact cellIndex_val 0#8
  case yBalance => decide

end Sys2Proof.Machine
end

section
/-! PROOF. The invariant of Safety.lean: it holds after reset, and every act of the host keeps it. -/

namespace Sys2Proof.Machine

/-- Settles O3: reset writes every field that the invariant reads, and both tables are empty. -/
theorem resetMeetsInvariant : Obligations.ResetMeetsInvariant where
  pulse_le := by decide
  fault_code := rfl
  perturbation_le := by decide
  cursors_equal := by decide
  evt_with_rsp := by decide
  drumMap_wf := reset_drumMap_wf
  euclidean_wf := reset_euclideanTable_wf

/-! ### Where a table entry is supplied -/

/-- If supplying a byte answers a next state, the byte exists, the tables are not fixed, and the byte is written. -/
theorem loadDrumMapByte_eq_next {a : Nat} {b : Byte} {s t : State} (h : loadDrumMapByte a b s = .next t) :
    a < drumMapSize ∧ s.tablesLocked = false ∧ t = { s.quiet with drumMap := Memory.write s.drumMap a b } := by
  rcases loadDrumMapByte_cases a b s with ⟨_, he⟩ | ⟨_, _, he⟩ | ⟨ha, hl, he⟩
  · simp [he] at h
  · simp [he] at h
  · cases he.symm.trans h
    exact ⟨ha, hl, rfl⟩

/-- If supplying a word answers a next state, the word exists, the tables are not fixed, and the word is written. -/
theorem loadEuclideanWord_eq_next {n : Nat} {m : Mask} {s t : State} (h : loadEuclideanWord n m s = .next t) :
    n < euclideanSize ∧ s.tablesLocked = false ∧
      t = { s.quiet with euclideanTable := Memory.write s.euclideanTable n m } := by
  rcases loadEuclideanWord_cases n m s with ⟨_, he⟩ | ⟨_, _, he⟩ | ⟨hn, hl, he⟩
  · simp [he] at h
  · simp [he] at h
  · cases he.symm.trans h
    exact ⟨hn, hl, rfl⟩

namespace State.Inv

variable {s : State} (h : s.Inv)
include h

/-! ### The named operations keep the invariant -/

theorem ack : s.ack.Inv := { h with evt_with_rsp := by simp }

theorem quiet : s.quiet.Inv := { h with evt_with_rsp := by simp }

theorem respond (e : Byte) : (s.respond e).Inv := { h with evt_with_rsp := by simp }

theorem taking (i : Instr) (rest : List HostInput) : (s.taking i rest).Inv := { h with }

theorem withInputs (rest : List HostInput) : { s with inputs := rest }.Inv := { h with }

theorem assertReset : s.assertReset.Inv :=
  { resetMeetsInvariant with drumMap_wf := h.drumMap_wf, euclidean_wf := h.euclidean_wf }

/-- `IllegalCommand` is the one cause that a step can raise, and its code is the one a faulted machine already has. -/
theorem raise_illegalCommand : (s.raise .illegalCommand).Inv := by
  cases hf : s.fault with
  | true => rw [raise_of_fault _ hf]; exact h.ack
  | false =>
    rw [raise_of_good _ hf]
    exact { h with fault_code := rfl, evt_with_rsp := by simp }

/-- Two bytes multiplied and shifted stay below 255 (R121). -/
theorem reroll : s.reroll.Inv :=
  { h with perturbation_le := fun c => by simpa using scale_toNat_le (s.draw c) s.randomness }

/-- Equal cursors advance together (R143). -/
theorem advanceCursors : s.advanceCursors.Inv :=
  { h with cursors_equal := fun c => by simp [h.cursors_equal c] }

theorem tickClock (n : Nat) : (s.tickClock n).Inv :=
  { h with
    pulse_le :=
      Nat.le_of_lt_succ ((s.tickClock_pulse_lt_pps n).trans_le s.clockResolution.pps_mem.2) }

theorem evaluate : s.evaluate.Inv := by
  obtain ⟨e, ⟨_, he⟩ | ⟨_, he⟩ | he⟩ := evaluate_effects s
  · rw [he]; exact h.reroll.respond e
  · rw [he]; exact h.advanceCursors.respond e
  · rw [he]; exact h.respond e

/-! ### Commands and steps keep it -/

/-- A command ends in a state that meets the invariant, the two ill-formed terms included. -/
theorem exec (i : Instr) : ∃ t, Machine.exec i s = .next t ∧ t.Inv := by
  cases hf : s.fault with
  | true => exact ⟨_, exec_of_fault hf i, h.ack⟩
  | false =>
    cases i with
    | eval => exact ⟨_, exec_eval_of_good hf, h.evaluate⟩
    | tick n => exact ⟨_, exec_tick_of_good hf n, (h.tickClock n.toNat).ack⟩
    | setx v => exact ⟨_, exec_setx_of_good hf v, { h.ack with }⟩
    | sety v => exact ⟨_, exec_sety_of_good hf v, { h.ack with }⟩
    | setdens ch v =>
      rcases channelOf_cases ch with ⟨c, _, hc⟩ | ⟨_, hc⟩
      · exact ⟨_, exec_setdens_of_channel hf hc v, { h.ack with }⟩
      · exact ⟨_, exec_setdens_of_no_channel hf hc v, h.raise_illegalCommand⟩
    | setrand v => exact ⟨_, exec_setrand_of_good hf v, { h.ack with }⟩
    | setres r =>
      rcases resolutionOf_cases r with ⟨res, hr⟩ | ⟨_, hr⟩
      · exact ⟨_, exec_setres_of_resolution hf hr, { h.ack with }⟩
      · exact ⟨_, exec_setres_of_no_resolution hf hr, h.raise_illegalCommand⟩
    | setmode m => exact ⟨_, exec_setmode_of_good hf m, { h.ack with }⟩

/-- Where the platform's byte is taken, its address is one of the table, so the form is kept (R42). -/
theorem loadDrumMapByte {a : Nat} {b : Byte} {t : State} (hl : Machine.loadDrumMapByte a b s = .next t) : t.Inv := by
  obtain ⟨ha, _, rfl⟩ := loadDrumMapByte_eq_next hl
  exact { h.quiet with drumMap_wf := Memory.wf_write b h.drumMap_wf ha }

theorem loadEuclideanWord {n : Nat} {m : Mask} {t : State} (hl : Machine.loadEuclideanWord n m s = .next t) :
    t.Inv := by
  obtain ⟨hn, _, rfl⟩ := loadEuclideanWord_eq_next hl
  exact { h.quiet with euclidean_wf := Memory.wf_write m h.euclidean_wf hn }

end State.Inv

/-- Settles O4: whatever the next input is, the operation that it leads to keeps the invariant. -/
theorem stepKeepsInvariant : Obligations.StepKeepsInvariant := by
  intro s t h hstep
  rcases step_cases s with ⟨_, he⟩ | ⟨_, rest, i, _, _, he⟩ | ⟨_, rest, _, _, _, he⟩ | ⟨rest, _, he⟩ |
    ⟨_, _, rest, _, he⟩ | ⟨_, _, rest, _, he⟩
  · cases he.symm.trans hstep
    exact h.quiet
  · obtain ⟨u, hu, hinv⟩ := (h.taking i rest).exec i
    cases (he.trans hu).symm.trans hstep
    exact hinv
  · cases he.symm.trans hstep
    exact (h.withInputs rest).raise_illegalCommand
  · cases he.symm.trans hstep
    exact (h.withInputs rest).assertReset
  · exact (h.withInputs rest).loadDrumMapByte (he.symm.trans hstep)
  · exact (h.withInputs rest).loadEuclideanWord (he.symm.trans hstep)

end Sys2Proof.Machine
end

section
/-! PROOF. Decoding and encoding (30_encoding.md R61 to R66): the decoder sees a word as its four fields. -/

namespace Sys2Proof

open Machine

/-! ### The fields of a word (R61) -/

/-- The four fields are the whole word. -/
theorem fields_append (w : CmdWord) : opOf w ++ zOf w ++ chOf w ++ dataOf w = w :=
  calc opOf w ++ zOf w ++ chOf w ++ dataOf w
    _ = cmdField w 10 6 ++ chOf w ++ dataOf w :=
      congrArg (· ++ chOf w ++ dataOf w) (BitVec.extractLsb'_append_extractLsb'_eq_extractLsb' rfl)
    _ = cmdField w 8 8 ++ dataOf w :=
      congrArg (· ++ dataOf w) (BitVec.extractLsb'_append_extractLsb'_eq_extractLsb' rfl)
    _ = w := BitVec.extractLsb'_append_extractLsb' (w := 8) (len := 8)

/-- A word whose `z` is 00 is the word of format `C` with its other three fields. -/
theorem formatC_fields {w : CmdWord} (hz : zOf w = 0#2) : formatC (opOf w) (chOf w) (dataOf w) = w := by
  conv_rhs => rw [← fields_append w, hz]
  rw [formatC]

theorem opOf_toNat (w : CmdWord) : (opOf w).toNat = w.toNat / 4096 := by
  have hlt := w.isLt
  rw [opOf, cmdField, BitVec.extractLsb'_toNat, Nat.shiftRight_eq_div_pow]
  omega

theorem zOf_toNat (w : CmdWord) : (zOf w).toNat = w.toNat / 1024 % 4 := by
  rw [zOf, cmdField, BitVec.extractLsb'_toNat, Nat.shiftRight_eq_div_pow]

theorem chOf_toNat (w : CmdWord) : (chOf w).toNat = w.toNat / 256 % 4 := by
  rw [chOf, cmdField, BitVec.extractLsb'_toNat, Nat.shiftRight_eq_div_pow]

theorem dataOf_toNat (w : CmdWord) : (dataOf w).toNat = w.toNat % 256 := by
  rw [dataOf, cmdField, BitVec.extractLsb'_toNat, Nat.shiftRight_zero]

section
variable (op : BitVec 4) (ch : BitVec 2) (data : Byte)

theorem opOf_formatC : opOf (formatC op ch data) = op :=
  calc opOf (formatC op ch data)
    _ = (op ++ 0#2 ++ ch).extractLsb' 4 4 := BitVec.extractLsb'_append_eq_of_le (v := 8) (w := 8) (by decide)
    _ = (op ++ 0#2).extractLsb' 2 4 := BitVec.extractLsb'_append_eq_of_le (v := 6) (w := 2) (by decide)
    _ = op := BitVec.extractLsb'_append_eq_left

theorem zOf_formatC : zOf (formatC op ch data) = 0#2 :=
  calc zOf (formatC op ch data)
    _ = (op ++ 0#2 ++ ch).extractLsb' 2 2 := BitVec.extractLsb'_append_eq_of_le (v := 8) (w := 8) (by decide)
    _ = (op ++ 0#2).extractLsb' 0 2 := BitVec.extractLsb'_append_eq_of_le (v := 6) (w := 2) (by decide)
    _ = 0#2 := BitVec.extractLsb'_append_eq_right

theorem chOf_formatC : chOf (formatC op ch data) = ch :=
  calc chOf (formatC op ch data)
    _ = (op ++ 0#2 ++ ch).extractLsb' 0 2 := BitVec.extractLsb'_append_eq_of_le (v := 8) (w := 8) (by decide)
    _ = ch := BitVec.extractLsb'_append_eq_right

theorem dataOf_formatC : dataOf (formatC op ch data) = data :=
  BitVec.extractLsb'_append_eq_right (w := 8) (w' := 8)

/-! ### What the decoder does, by the fields (R65, R66) -/

theorem opcodeKnown_iff : opcodeKnown op = true ↔ 1 ≤ op.toNat ∧ op.toNat ≤ 8 := by
  simp [opcodeKnown]

theorem opcodeKnown_eq_false_iff : opcodeKnown op = false ↔ op.toNat = 0 ∨ 9 ≤ op.toNat := by
  rw [← Bool.not_eq_true, opcodeKnown_iff]
  omega

/-- The decoder's four outcomes: the three checks of the must-be-zero fields in R65's order, then the row of the
operation code. -/
theorem decode_cases (w : CmdWord) :
    (opcodeKnown (opOf w) = false ∧ decode w = .error .opcode) ∨
    (zOf w ≠ 0#2 ∧ decode w = .error .mustBeZero) ∨
    ((opOf w ≠ 5#4 ∧ chOf w ≠ 0#2) ∧ decode w = .error .channelGiven) ∨
    (opcodeKnown (opOf w) = true ∧ zOf w = 0#2 ∧ ¬(opOf w ≠ 5#4 ∧ chOf w ≠ 0#2) ∧
      decode w = decodeOperands (opOf w) (chOf w) (dataOf w)) := by
  unfold decode
  split_ifs with hop hz hch
  · exact .inl ⟨by simpa using hop, rfl⟩
  · exact .inr (.inl ⟨hz, rfl⟩)
  · exact .inr (.inr (.inl ⟨hch, rfl⟩))
  · exact .inr (.inr (.inr ⟨by simpa using hop, not_not.mp hz, hch, rfl⟩))

variable {op ch}

/-- A word of format `C` passes the three checks where its operation code is known and `ch` is given by `SETDENS`
only. -/
theorem decode_formatC (hop : opcodeKnown op = true) (hch : ¬(op ≠ 5#4 ∧ ch ≠ 0#2)) :
    decode (formatC op ch data) = decodeOperands op ch data := by
  have hcases := decode_cases (formatC op ch data)
  rw [opOf_formatC, zOf_formatC, chOf_formatC, dataOf_formatC] at hcases
  rcases hcases with ⟨h, _⟩ | ⟨h, _⟩ | ⟨h, _⟩ | ⟨_, _, _, he⟩
  · simp [hop] at h
  · exact absurd rfl h
  · exact absurd h hch
  · exact he

end

/-! ### The rows of the table (R63) -/

/-- The two parts of the `data` field of `SETRES` are the whole field. -/
theorem resolutionData_append {data : Byte} (h : data.extractLsb' 2 6 = 0#6) : 0#6 ++ data.extractLsb' 0 2 = data := by
  rw [← h]
  exact BitVec.extractLsb'_append_extractLsb' (w := 6) (len := 2)

/-- The two parts of the `data` field of `SETMODE` are the whole field. -/
theorem modeData_append {data : Byte} (h : data.extractLsb' 1 7 = 0#7) : 0#7 ++ data.extractLsb' 0 1 = data := by
  rw [← h]
  exact BitVec.extractLsb'_append_extractLsb' (w := 7) (len := 1)

theorem extractLsb'_eq_iff_toNat {data : Byte} {lo len n : Nat} (hn : n < 2 ^ len) :
    data.extractLsb' lo len = BitVec.ofNat len n ↔ data.toNat / 2 ^ lo % 2 ^ len = n := by
  rw [BitVec.toNat_eq, BitVec.extractLsb'_toNat, Nat.shiftRight_eq_div_pow, BitVec.toNat_ofNat, Nat.mod_eq_of_lt hn]

theorem eq_ofNat_of_toNat {op : BitVec 4} {n : Nat} (h : op.toNat = n) : op = BitVec.ofNat 4 n := by
  rw [← h, BitVec.ofNat_toNat, BitVec.setWidth_eq]

/-- In a row other than `SETDENS`, where `ch` must be 00, the command and its word are fixed by `data`. -/
theorem encode_of_row {op : BitVec 4} {ch : BitVec 2} {data : Byte} {n : Nat} {i j : Instr} (hn : op.toNat = n)
    (h5 : n ≠ 5) (hch : op ≠ 5#4 → ch = 0#2) (hj : Except.ok (ε := Reserved) j = .ok i)
    (he : encode j = formatC (BitVec.ofNat 4 n) 0#2 data) (hw : WellFormed j) :
    encode i = formatC op ch data ∧ WellFormed i := by
  have hop : op ≠ 5#4 := by
    rintro rfl
    exact h5 hn.symm
  cases hj
  rw [hch hop, eq_ofNat_of_toNat hn]
  exact ⟨he, hw⟩

/-- A row that accepts its operands is the row of the command it answers. -/
theorem encode_of_decodeOperands {op : BitVec 4} {ch : BitVec 2} {data : Byte} {i : Instr}
    (hch : op ≠ 5#4 → ch = 0#2) (h : decodeOperands op ch data = .ok i) :
    encode i = formatC op ch data ∧ WellFormed i := by
  unfold decodeOperands at h
  split at h
  case h_1 hn =>
    split_ifs at h with hd
    exact encode_of_row hn (by decide) hch h (by rw [hd, encode]) rfl
  case h_2 hn => exact encode_of_row hn (by decide) hch h rfl rfl
  case h_3 hn => exact encode_of_row hn (by decide) hch h rfl rfl
  case h_4 hn => exact encode_of_row hn (by decide) hch h rfl rfl
  case h_5 hn =>
    split_ifs at h with hc
    cases h
    exact ⟨by rw [eq_ofNat_of_toNat hn, encode], by simpa [WellFormed, Instr.wellFormed] using hc⟩
  case h_6 hn => exact encode_of_row hn (by decide) hch h rfl rfl
  case h_7 hn =>
    split_ifs at h with hr
    obtain ⟨hhigh, hcode⟩ := hr
    exact encode_of_row hn (by decide) hch h (by rw [encode, resolutionData_append hhigh])
      (by simpa [WellFormed, Instr.wellFormed] using hcode)
  case h_8 hn =>
    split_ifs at h with hm
    exact encode_of_row hn (by decide) hch h (by rw [encode, modeData_append hm]) rfl
  case h_9 => cases h

/-- A row with a condition refuses exactly where the condition fails. -/
theorem ite_eq_error_iff (p : Prop) [Decidable p] (i : Instr) (e : Reserved) :
    (∃ r, (if p then Except.ok i else Except.error e) = Except.error r) ↔ ¬p := by
  split_ifs with h <;> simp [h]

/-- The rows' own conditions on their operands, as numbers (R65 items 1 and 4 to 7). -/
theorem decodeOperands_error_iff (op : BitVec 4) (ch : BitVec 2) (data : Byte) :
    (∃ r, decodeOperands op ch data = .error r) ↔
      (op.toNat = 0 ∨ 9 ≤ op.toNat) ∨ (op.toNat = 5 ∧ ch.toNat = 3) ∨ (op.toNat = 1 ∧ data.toNat ≠ 0) ∨
      (op.toNat = 7 ∧ (data.toNat / 4 ≠ 0 ∨ data.toNat % 4 = 3)) ∨ (op.toNat = 8 ∧ data.toNat / 2 ≠ 0) := by
  have hlt := data.isLt
  unfold decodeOperands
  split
  case h_1 hn => simp [hn, ite_eq_error_iff, BitVec.toNat_eq]
  case h_2 hn => simp [hn]
  case h_3 hn => simp [hn]
  case h_4 hn => simp [hn]
  case h_5 hn =>
    rw [← ite_not, ite_eq_error_iff]
    simp [hn, BitVec.toNat_eq]
  case h_6 hn => simp [hn]
  case h_7 hn =>
    rw [ite_eq_error_iff, ne_eq, extractLsb'_eq_iff_toNat (by decide), extractLsb'_eq_iff_toNat (by decide)]
    omega
  case h_8 hn =>
    rw [ite_eq_error_iff, extractLsb'_eq_iff_toNat (by decide)]
    omega
  case h_9 =>
    have hop : op.toNat = 0 ∨ 9 ≤ op.toNat := by
      simp only [imp_false] at *
      omega
    simp [hop]

/-! ### The obligations -/

/-- Settles O8: each command's word has format `C`, and the row of its operation code answers the command. -/
theorem decodeOfEncode : Obligations.DecodeOfEncode := by
  intro i hw
  cases i with
  | eval => exact decode_formatC _ rfl (by decide)
  | tick n => exact decode_formatC n rfl (by decide)
  | setx v => exact decode_formatC v rfl (by decide)
  | sety v => exact decode_formatC v rfl (by decide)
  | setdens c v =>
    have hc : c ≠ 3#2 := by simpa [WellFormed, Instr.wellFormed] using hw
    exact (decode_formatC v rfl fun h => h.1 rfl).trans (if_neg hc)
  | setrand v => exact decode_formatC v rfl (by decide)
  | setres r =>
    have hr : r ≠ 3#2 := by simpa [WellFormed, Instr.wellFormed] using hw
    have hhigh : (0#6 ++ r).extractLsb' 2 6 = 0#6 := BitVec.extractLsb'_append_eq_left
    have hlow : (0#6 ++ r).extractLsb' 0 2 = r := BitVec.extractLsb'_append_eq_right
    rw [encode, decode_formatC _ rfl (by decide)]
    simp [decodeOperands, hhigh, hlow, hr]
  | setmode m =>
    have hhigh : (0#7 ++ m).extractLsb' 1 7 = 0#7 := BitVec.extractLsb'_append_eq_left
    have hlow : (0#7 ++ m).extractLsb' 0 1 = m := BitVec.extractLsb'_append_eq_right
    rw [encode, decode_formatC _ rfl (by decide)]
    simp [decodeOperands, hhigh, hlow]

/-- Settles O9: past the three checks the word is of format `C`, and its row names the command. -/
theorem encodeOfDecode : Obligations.EncodeOfDecode := by
  intro w i h
  rcases decode_cases w with ⟨_, he⟩ | ⟨_, he⟩ | ⟨_, he⟩ | ⟨_, hz, hch, he⟩
  · simp [he] at h
  · simp [he] at h
  · simp [he] at h
  · have hch' : opOf w ≠ 5#4 → chOf w = 0#2 := fun h5 => by_contra fun h0 => hch ⟨h5, h0⟩
    rw [← formatC_fields hz]
    exact encode_of_decodeOperands hch' (he.symm.trans h)

/-- Settles O10: the three checks are items 1 to 3 of R65, and the rows' conditions are the other items. -/
theorem reservedWordsAreRefused : Obligations.ReservedWordsAreRefused := by
  intro w
  rw [ReservedWord, ← opOf_toNat, ← zOf_toNat, ← chOf_toNat, ← dataOf_toNat, ReservedFields]
  rcases decode_cases w with ⟨hop, he⟩ | ⟨hz, he⟩ | ⟨hch, he⟩ | ⟨hop, hz, hch, he⟩
  · exact iff_of_true ⟨_, he⟩ (.inl ((opcodeKnown_eq_false_iff _).mp hop))
  · exact iff_of_true ⟨_, he⟩ (.inr (.inl (by simpa [BitVec.toNat_eq] using hz)))
  · exact iff_of_true ⟨_, he⟩ (.inr (.inr (.inl (by simpa [BitVec.toNat_eq, and_comm] using hch))))
  · rw [opcodeKnown_iff] at hop
    simp only [ne_eq, BitVec.toNat_eq, BitVec.toNat_ofNat, Nat.reducePow, Nat.reduceMod] at hz hch
    rw [he, decodeOperands_error_iff]
    omega

/-- Settles O11: twelve closed words. -/
theorem sampleWordsDecode : Obligations.SampleWordsDecode := by
  unfold Obligations.SampleWordsDecode
  decide

end Sys2Proof
end

section
/-! PROOF. One step, by the host's next input, and the two tables (00_scope.md R5, 20_memory.md R42 to R57). -/

namespace Sys2Proof.Machine

/-! ### A step that takes no command -/

section
variable {s : State} {rest : List HostInput}

theorem step_of_idle (h : s.inputs = []) : step s = .next s.quiet := by
  simp [step, takeInput, h]

theorem step_of_reset (h : s.inputs = .reset :: rest) : step s = .next { s with inputs := rest }.assertReset := by
  simp [step, takeInput, h]

theorem step_of_loadDrumMap {a : Nat} {b : Byte} (h : s.inputs = .loadDrumMap a b :: rest) :
    step s = loadDrumMapByte a b { s with inputs := rest } := by
  simp [step, takeInput, h]

theorem step_of_loadEuclidean {n : Nat} {m : Mask} (h : s.inputs = .loadEuclidean n m :: rest) :
    step s = loadEuclideanWord n m { s with inputs := rest } := by
  simp [step, takeInput, h]

end

/-! ### What every command does -/

/-- The one command that takes draws: an `EVAL` that re-rolls (R120). -/
abbrev Rerolls (i : Instr) (s : State) : Prop :=
  i = .eval ∧ s.fault = false ∧ s.pulse = 0#2 ∧ s.outputMode = .grid ∧ s.step = 0#5

/-- What a command leaves, whatever it is: it is complete; it returned an event word exactly if it was an `EVAL` that
was not ignored (R73, R176); a well-formed command raises nothing (R170); the tables and the host's further acts are
untouched (R47); and so is the random source with the perturbations, if the command does not re-roll (R120). -/
structure Completes (i : Instr) (s t : State) : Prop where
  rspValid : t.rspValid = true
  evtValid : t.evtValid = (!s.fault && readsTables i)
  fault : WellFormed i → t.fault = s.fault
  drumMap : t.drumMap = s.drumMap
  euclideanTable : t.euclideanTable = s.euclideanTable
  tablesLocked : t.tablesLocked = s.tablesLocked
  inputs : t.inputs = s.inputs
  draws : ¬Rerolls i s → t.rolls = s.rolls ∧ t.rndIn = s.rndIn ∧ t.partPerturbation = s.partPerturbation

/-- An ill-formed term completes by raising `IllegalCommand` (log 10). -/
theorem raise_completes {i : Instr} {s : State} (hi : i.wellFormed = false) (hr : readsTables i = false) :
    Completes i s (s.raise .illegalCommand) := by
  constructor <;> simp [hi, hr]

theorem evaluate_completes {s : State} (hf : s.fault = false) : Completes .eval s s.evaluate := by
  obtain ⟨e, ⟨hreroll, he⟩ | ⟨_, he⟩ | he⟩ := evaluate_effects s
  · rw [he]; constructor <;> simp [hf, readsTables, hreroll]
  · rw [he]; constructor <;> simp [hf, readsTables]
  · rw [he]; constructor <;> simp [hf, readsTables]

theorem exec_completes (i : Instr) (s : State) : ∃ t, exec i s = .next t ∧ Completes i s t := by
  cases hf : s.fault with
  | true => exact ⟨_, exec_of_fault hf i, by constructor <;> simp [hf]⟩
  | false =>
    cases i with
    | eval => exact ⟨_, exec_eval_of_good hf, evaluate_completes hf⟩
    | tick n => exact ⟨_, exec_tick_of_good hf n, by constructor <;> simp [readsTables]⟩
    | setx v => exact ⟨_, exec_setx_of_good hf v, by constructor <;> simp [readsTables]⟩
    | sety v => exact ⟨_, exec_sety_of_good hf v, by constructor <;> simp [readsTables]⟩
    | setdens ch v =>
      rcases channelOf_cases ch with ⟨c, _, hc⟩ | ⟨rfl, hc⟩
      · exact ⟨_, exec_setdens_of_channel hf hc v, by constructor <;> simp [readsTables]⟩
      · exact ⟨_, exec_setdens_of_no_channel hf hc v, raise_completes rfl rfl⟩
    | setrand v => exact ⟨_, exec_setrand_of_good hf v, by constructor <;> simp [readsTables]⟩
    | setres r =>
      rcases resolutionOf_cases r with ⟨res, hr⟩ | ⟨rfl, hr⟩
      · exact ⟨_, exec_setres_of_resolution hf hr, by constructor <;> simp [readsTables]⟩
      · exact ⟨_, exec_setres_of_no_resolution hf hr, raise_completes rfl rfl⟩
    | setmode m => exact ⟨_, exec_setmode_of_good hf m, by constructor <;> simp [readsTables]⟩

theorem completes_of_exec {i : Instr} {s t : State} (h : exec i s = .next t) : Completes i s t := by
  obtain ⟨u, hu, hc⟩ := exec_completes i s
  cases hu.symm.trans h
  exact hc

/-! ### Addresses of the DrumMap (R42, R43) -/

theorem drumMapAddr_lt (i j : Fin 5) (k : Fin 96) : drumMapAddr i j k < drumMapSize := by
  rw [drumMapAddr, drumMapSize]
  omega

theorem drumMapAddr_inj {i j i' j' : Fin 5} {k k' : Fin 96} (h : drumMapAddr i j k = drumMapAddr i' j' k') :
    i = i' ∧ j = j' ∧ k = k' := by
  rw [drumMapAddr, drumMapAddr] at h
  omega

theorem exists_drumMapAddr_eq {a : Nat} (ha : a < drumMapSize) : ∃ i j k, drumMapAddr i j k = a := by
  rw [drumMapSize] at ha
  refine ⟨⟨a / 480, by omega⟩, ⟨a / 96 % 5, by omega⟩, ⟨a % 96, by omega⟩, ?_⟩
  simp only [drumMapAddr]
  omega

/-! ### Reading a supplied entry -/

theorem DM_of_drumMap_write {s t : State} {i j : Fin 5} {k : Fin 96} {b : Byte}
    (ht : t.drumMap = Memory.write s.drumMap (drumMapAddr i j k) b) :
    t.DM i j k = b ∧ ∀ i' j' k', ¬(i' = i ∧ j' = j ∧ k' = k) → t.DM i' j' k' = s.DM i' j' k' := by
  constructor
  · simp [State.DM, ht, Memory.read_write_same]
  · intro i' j' k' hne
    simp only [State.DM, ht, Memory.read_write_other _ _ fun ha => hne (drumMapAddr_inj ha)]

theorem EU_of_euclideanTable_write {s t : State} {n : Fin 256} {m : Mask}
    (ht : t.euclideanTable = Memory.write s.euclideanTable n.val m) :
    t.EU n = m ∧ ∀ n', n' ≠ n → t.EU n' = s.EU n' := by
  constructor
  · simp [State.EU, ht, Memory.read_write_same]
  · intro n' hne
    simp only [State.EU, ht, Memory.read_write_other _ _ fun ha => hne (Fin.ext ha)]

/-! ### The obligations -/

/-- Settles O7: it is the first part of what every command leaves. -/
theorem everyCommandCompletes : Obligations.EveryCommandCompletes := by
  intro i s
  obtain ⟨t, ht, hc⟩ := exec_completes i s
  exact ⟨t, ht, hc.rspValid⟩

/-- Settles O5: `readsTables` is the test for `EVAL`. -/
theorem stepRunsDecodedCommand : Obligations.StepRunsDecodedCommand := by
  intro s w rest i hs hd
  rw [step_of_command hs hd, State.taking, readsTables]

/-- Settles O6: an idle step only lets the strobes fall. -/
theorem idleStepKeepsState : Obligations.IdleStepKeepsState := by
  intro s hs
  rw [step_of_idle hs, State.quiet]

/-- Settles O2: the step is the assertion of `rst`. -/
theorem resetInputRestoresDefaults : Obligations.ResetInputRestoresDefaults := by
  intro s rest hs
  rw [step_of_reset hs, State.assertReset]

/-- Settles O36: node and offset are the digits of the address, to the bases 5, 5 and 96. -/
theorem drumMapAddressesAreOneToOne : Obligations.DrumMapAddressesAreOneToOne :=
  ⟨drumMapAddr_lt, fun _ _ _ _ _ _ => drumMapAddr_inj, fun _ => exists_drumMapAddr_eq⟩

/-- Settles O55: commands keep the tables and their lock; with the lock set a step that would supply an entry stops. -/
theorem tablesFixedDuringRun : Obligations.TablesFixedDuringRun := by
  refine ⟨fun i s t ht => ?command, fun s t ht hl => ?step⟩
  case command =>
    have hc := completes_of_exec ht
    exact ⟨hc.drumMap, hc.euclideanTable, hc.tablesLocked, hc.inputs⟩
  case step =>
    rcases step_cases s with ⟨_, he⟩ | ⟨_, rest, i, _, _, he⟩ | ⟨_, rest, _, _, _, he⟩ | ⟨rest, hs, he⟩ |
      ⟨a, b, rest, _, he⟩ | ⟨n, m, rest, _, he⟩
    · cases he.symm.trans ht
      simp [hl]
    · have hc := completes_of_exec (he.symm.trans ht)
      exact ⟨hc.drumMap, hc.euclideanTable,
        fun _ => by rw [hc.tablesLocked, State.taking_tablesLocked, hl, Bool.true_or]⟩
    · cases he.symm.trans ht
      simp [hl]
    · cases he.symm.trans ht
      exact ⟨rfl, rfl, fun h => absurd hs (h rest)⟩
    · obtain ⟨_, hl', _⟩ := loadDrumMapByte_eq_next (he.symm.trans ht)
      simp [hl] at hl'
    · obtain ⟨_, hl', _⟩ := loadEuclideanWord_eq_next (he.symm.trans ht)
      simp [hl] at hl'

/-- Settles O56: the entry exists and the tables are not fixed, so the entry is written. -/
theorem suppliedEntryIsRead : Obligations.SuppliedEntryIsRead := by
  intro s rest hl
  refine ⟨fun i j k b hs => ?drumMap, fun n m hs => ?euclidean⟩
  case drumMap =>
    rw [step_of_loadDrumMap hs]
    rcases loadDrumMapByte_cases (drumMapAddr i j k) b { s with inputs := rest } with
      ⟨ha, _⟩ | ⟨_, hl', _⟩ | ⟨_, _, he⟩
    · exact absurd (drumMapAddr_lt i j k) (Nat.not_lt.mpr ha)
    · simp [hl] at hl'
    · exact ⟨_, he, rfl, DM_of_drumMap_write rfl⟩
  case euclidean =>
    rw [step_of_loadEuclidean hs]
    rcases loadEuclideanWord_cases n.val m { s with inputs := rest } with ⟨hn, _⟩ | ⟨_, hl', _⟩ | ⟨_, _, he⟩
    · exact absurd n.isLt (Nat.not_lt.mpr hn)
    · simp [hl] at hl'
    · exact ⟨_, he, rfl, EU_of_euclideanTable_write rfl⟩

/-- Settles O57: the check of the address comes before the check of the lock. -/
theorem tableChangeStops : Obligations.TableChangeStops := by
  intro s rest
  refine ⟨fun a b hs => ?drumMap, fun n m hs => ?euclidean⟩
  case drumMap =>
    rw [step_of_loadDrumMap hs]
    rcases loadDrumMapByte_cases a b { s with inputs := rest } with ⟨ha, he⟩ | ⟨ha, _, he⟩ | ⟨ha, hl, _⟩
    · exact ⟨fun _ => he, fun hlt => absurd hlt (Nat.not_lt.mpr ha)⟩
    · exact ⟨fun hge => absurd ha (Nat.not_lt.mpr hge), fun _ _ => he⟩
    · exact ⟨fun hge => absurd ha (Nat.not_lt.mpr hge), fun _ hl' => by simp [hl'] at hl⟩
  case euclidean =>
    rw [step_of_loadEuclidean hs]
    rcases loadEuclideanWord_cases n m { s with inputs := rest } with ⟨hn, he⟩ | ⟨hn, _, he⟩ | ⟨hn, hl, _⟩
    · exact ⟨fun _ => he, fun hlt => absurd hlt (Nat.not_lt.mpr hn)⟩
    · exact ⟨fun hge => absurd hn (Nat.not_lt.mpr hge), fun _ _ => he⟩
    · exact ⟨fun hge => absurd hn (Nat.not_lt.mpr hge), fun _ hl' => by simp [hl'] at hl⟩

end Sys2Proof.Machine
end

section
/-! PROOF. Faults (60_exceptions.md), the setters and the wrapper (44_dispatch_and_setters.md), and what reset leaves
(70_reset_and_hazards.md). -/

namespace Sys2Proof.Machine

/-! ### Reserved words -/

/-- A reserved word is one that the decoder refuses, and refusing it raises `IllegalCommand` (R65, R173). -/
theorem step_of_reservedWord {s : State} {w : CmdWord} {rest : List HostInput} (hs : s.inputs = .command w :: rest)
    (hw : ReservedWord w) : step s = .next ({ s with inputs := rest }.raise .illegalCommand) := by
  obtain ⟨r, hd⟩ := (reservedWordsAreRefused w).mpr hw
  exact step_of_reserved hs hd

/-- Settles O13: fault entry on a machine without fault. -/
theorem reservedWordIsIllegalCommand : Obligations.ReservedWordIsIllegalCommand := by
  intro s w rest hf hs hw
  exact (step_of_reservedWord hs hw).trans (congrArg Host.Outcome.next (raise_of_good .illegalCommand hf))

/-! ### A faulted machine -/

/-- Every step but a reset keeps the fault. -/
theorem fault_of_step {s t : State} (hf : s.fault = true) (ht : step s = .next t)
    (hreset : ∀ rest, s.inputs ≠ .reset :: rest) : t.fault = true := by
  rcases step_cases s with ⟨_, he⟩ | ⟨_, rest, i, _, _, he⟩ | ⟨_, rest, _, _, _, he⟩ | ⟨rest, hs, _⟩ |
    ⟨a, b, rest, _, he⟩ | ⟨n, m, rest, _, he⟩
  · cases he.symm.trans ht
    simp [hf]
  · cases (he.trans (exec_of_fault (by simpa using hf) i)).symm.trans ht
    simp [hf]
  · cases he.symm.trans ht
    simp
  · exact absurd hs (hreset rest)
  · obtain ⟨_, _, rfl⟩ := loadDrumMapByte_eq_next (he.symm.trans ht)
    exact hf
  · obtain ⟨_, _, rfl⟩ := loadEuclideanWord_eq_next (he.symm.trans ht)
    exact hf

/-- Settles O14: a legal word is completed with no effect, and so is a reserved one, whose fault is not the first. -/
theorem faultedMachineIgnoresCommands : Obligations.FaultedMachineIgnoresCommands := by
  intro s hf
  refine ⟨fun w rest hs => ?ignored, fun t ht hgood => ?cleared⟩
  case ignored =>
    cases hd : decode w with
    | ok i => exact ⟨_, (step_of_command hs hd).trans (exec_of_fault (by simpa using hf) i), rfl⟩
    | error r => exact ⟨_, (step_of_reserved hs hd).trans (congrArg Host.Outcome.next (raise_of_fault _ hf)), rfl⟩
  case cleared =>
    by_contra hreset
    have hfault := fault_of_step hf ht fun rest hs => hreset ⟨rest, hs⟩
    simp [hgood] at hfault

/-- Settles O15: the two cases of fault entry, and the outputs, which show the state's own fields. -/
theorem faultEntryKeepsFirstCode : Obligations.FaultEntryKeepsFirstCode := by
  intro s c
  refine ⟨fun hf => ?first, fun hf => ?later, ?fault, ?noEvent, rfl⟩
  case first => rw [raise_of_good c hf, State.ack]
  case later => rw [raise_of_fault c hf, State.ack]
  case fault => exact State.raise_fault s c
  case noEvent => exact State.raise_evtValid s c

/-! ### The wrapper (R158) -/

theorem rangeChecked_of_mem {cmd : Byte → State → Host.Outcome State Fault Refusal} {v : Int} {s : State}
    (hv : 0 ≤ v ∧ v ≤ 255) : rangeChecked cmd v s = cmd (BitVec.ofInt 8 v) s :=
  if_pos hv

theorem rangeChecked_of_not_mem {cmd : Byte → State → Host.Outcome State Fault Refusal} {v : Int} {s : State}
    (hf : s.fault = false) (hv : ¬(0 ≤ v ∧ v ≤ 255)) :
    rangeChecked cmd v s = .next { s with fault := true, faultCode := 2#2, rspValid := true, evtValid := false } := by
  rw [rangeChecked, if_neg hv, raise_of_good _ hf, Cause.code, State.ack]

/-- Settles O16: all four setters share the one range check. -/
theorem wideSettersReject : Obligations.WideSettersReject := by
  intro s v c hf
  refine ⟨fun hv => ?outside, fun hv => ?inside⟩
  case outside =>
    simp [wideSetX, wideSetY, wideSetDensity, wideSetRandomness, rangeChecked_of_not_mem hf hv]
  case inside =>
    simp only [wideSetX, wideSetY, wideSetDensity, wideSetRandomness, rangeChecked_of_mem hv, exec, and_self]

/-! ### The other setters -/

theorem channelOf_ofNat (c : Channel) : channelOf (BitVec.ofNat 2 c.val) = some c := by
  revert c
  decide

theorem resolutionOf_code (r : ClockResolution) : resolutionOf r.code = some r := by
  cases r <;> rfl

theorem modeOf_code (m : OutputMode) : modeOf m.code = m := by
  cases m <;> rfl

/-- Settles O12: the codes are small tables. -/
theorem resolutionAndModeCodes : Obligations.ResolutionAndModeCodes :=
  ⟨rfl, rfl, rfl, rfl, rfl, rfl, rfl, rfl, rfl, fun r => ⟨resolutionOf_code r, r.pps_mem.1⟩, modeOf_code⟩

/-- Settles O19: the file's laws give the written entry and the other two; channel 3 has no entry. -/
theorem setdensWritesOneEntry : Obligations.SetdensWritesOneEntry := by
  refine ⟨fun s c v hf => ?write, fun s v hf => ?illFormed, fun v => ?reserved, by decide, by decide, by decide⟩
  case write =>
    exact ⟨s.density.set c v, exec_setdens_of_channel hf (channelOf_ofNat c) v, PerChannel.get_set_same _ c v,
      fun e he => PerChannel.get_set_other _ v he⟩
  case illFormed =>
    rw [exec_setdens_of_no_channel hf (by decide), raise_of_good _ hf, Cause.code, State.ack]
  case reserved => exact decode_formatC (op := 5#4) (ch := 3#2) v rfl (by decide)

/-- Settles O20: a re-roll scales its draws by `randomness`. -/
theorem setrandWritesRandomness : Obligations.SetrandWritesRandomness := by
  refine ⟨fun s v hf => ?result, fun s hr c => ?reroll⟩
  case result => rw [exec_setrand_of_good hf, State.ack]
  case reroll => simp [hr, scale_zero_right]

/-- Settles O21: each resolution is the one of its code, and code 3 has none. -/
theorem setresWritesResolution : Obligations.SetresWritesResolution := by
  intro s hf
  refine ⟨fun res => ?result, ?reserved⟩
  case result => rw [exec_setres_of_resolution hf (resolutionOf_code res), State.ack]
  case reserved => rw [exec_setres_of_no_resolution hf rfl, raise_of_good _ hf, Cause.code, State.ack]

/-- Only bits 0 to 2 of a Euclidean-mode word can be set (R71). -/
theorem euclideanModeWord_toNat_le (trig : PerChannel Bool) : (euclideanModeWord trig).toNat ≤ 7 := by
  refine Nat.le_of_lt_succ (Nat.lt_pow_two_of_testBit (n := 3) _ fun k hk => ?_)
  exact euclideanModeWord_above_triggers trig hk

/-- Settles O22: the mode is the one of the code, the row of `SETMODE` refuses the other data bits, and the evaluation
that follows is the Euclidean one. -/
theorem setmodeWritesMode : Obligations.SetmodeWritesMode := by
  refine ⟨fun s m hf => ?result, fun d hd => ?reserved, by decide, fun s hf hp => ?eval⟩
  case result => rw [exec_setmode_of_good hf, modeOf_code, State.ack]
  case reserved =>
    have hdata : d.extractLsb' 1 7 ≠ 0#7 := by
      have hlt := d.isLt
      rw [ne_eq, extractLsb'_eq_iff_toNat (by decide)]
      omega
    exact (decode_formatC (op := 8#4) (ch := 0#2) d rfl (by decide)).trans (if_neg hdata)
  case eval =>
    refine ⟨_, _, exec_setmode_of_good hf 1#1, exec_eval_of_euclidean hf hp rfl, rfl, ?_⟩
    exact euclideanModeWord_toNat_le _

/-! ### The machine after reset -/

/-- Settles O1: the defaults are the literals of the reset state; the first `EVAL` is a Grid-mode one at step 0, whose
re-roll scales the draws by 0. -/
theorem resetLeavesDefaults : Obligations.ResetLeavesDefaults := by
  refine ⟨rfl, rfl, by decide, rfl, rfl, rfl, rfl, rfl, rfl, by decide, by decide, rfl, rfl, _,
    exec_eval_of_grid rfl rfl rfl, rfl, ?clock, ?reset, rfl, fun c => ?perturbation⟩
  case clock => exact gridModeWord_clock ..
  case reset => exact (gridModeWord_reset ..).mpr rfl
  case perturbation => exact setrandWritesRandomness.2 State.reset rfl c

end Sys2Proof.Machine
end

section
/-! PROOF. The ClockDivider (41_clock_divider.md R101 to R108): the loop, its closed form, and what repeated and mixed
calls leave. -/

namespace Sys2Proof.Machine

/-! ### The loop of R101 and its closed form (R102) -/

/-- With fuel for `t / pps` passes the loop ends in quotient and remainder. -/
theorem rollOver_eq {pps : Nat} (hpps : 1 ≤ pps) {fuel t p : Nat} (hp : p < 32) (hfuel : t / pps ≤ fuel) :
    rollOver pps fuel t p = (t % pps, (p + t / pps) % 32) := by
  induction fuel generalizing t p with
  | zero =>
    have ht : t < pps := (Nat.div_eq_zero_iff_lt hpps).mp (Nat.le_zero.mp hfuel)
    rw [rollOver, Nat.mod_eq_of_lt ht, Nat.div_eq_of_lt ht, Nat.add_zero, Nat.mod_eq_of_lt hp]
  | succ fuel ih =>
    rw [rollOver]
    split_ifs with ht
    · have hdiv : t / pps = (t - pps) / pps + 1 := Nat.div_eq_sub_div hpps ht
      rw [ih (Nat.mod_lt _ (by decide)) (by omega), ← Nat.mod_eq_sub_mod ht, hdiv, Nat.mod_add_mod, Nat.add_assoc,
        Nat.add_comm 1]
    · have ht : t < pps := Nat.not_le.mp ht
      rw [Nat.mod_eq_of_lt ht, Nat.div_eq_of_lt ht, Nat.add_zero, Nat.mod_eq_of_lt hp]

/-- With less fuel the loop is stopped before its end. -/
theorem pps_le_rollOver {pps : Nat} (hpps : 1 ≤ pps) {fuel t : Nat} (p : Nat) (hfuel : fuel < t / pps) :
    pps ≤ (rollOver pps fuel t p).1 := by
  induction fuel generalizing t p with
  | zero => exact (Nat.div_pos_iff.mp hfuel).2
  | succ fuel ih =>
    have ht : pps ≤ t := (Nat.div_pos_iff.mp (Nat.zero_lt_of_lt hfuel)).2
    have hdiv : t / pps = (t - pps) / pps + 1 := Nat.div_eq_sub_div hpps ht
    rw [rollOver, if_pos ht]
    exact ih _ (by omega)

/-! ### The position after `tickClock` -/

theorem State.tickClock_pulse (s : State) (n : Nat) :
    (s.tickClock n).pulse = BitVec.ofNat 2 ((s.pulse.toNat + n) % s.clockResolution.pps) := rfl

theorem State.tickClock_step_toNat (s : State) (n : Nat) :
    (s.tickClock n).step.toNat = (s.step.toNat + (s.pulse.toNat + n) / s.clockResolution.pps) % 32 := by
  simp [State.tickClock]

theorem State.tickClock_step (s : State) (n : Nat) :
    (s.tickClock n).step = s.step + BitVec.ofNat 5 ((s.pulse.toNat + n) / s.clockResolution.pps) := by
  apply BitVec.eq_of_toNat_eq
  simp [State.tickClock_step_toNat]

/-- `tickClock` writes the position and nothing else. -/
theorem State.tickClock_eq {s : State} {n : Nat} {p : BitVec 2} {st : BitVec 5}
    (hp : (s.tickClock n).pulse.toNat = p.toNat) (hst : (s.tickClock n).step.toNat = st.toNat) :
    s.tickClock n = { s with pulse := p, step := st } := by
  rw [← BitVec.eq_of_toNat_eq hp, ← BitVec.eq_of_toNat_eq hst]
  rfl

theorem State.tickClock_add (s : State) (a b : Nat) : (s.tickClock a).tickClock b = s.tickClock (a + b) := by
  have hp : ((s.tickClock a).tickClock b).pulse.toNat = (s.tickClock (a + b)).pulse.toNat := by
    simp only [State.tickClock_pulse_toNat, State.tickClock_clockResolution, Nat.mod_add_mod, Nat.add_assoc]
  have hst : ((s.tickClock a).tickClock b).step.toNat = (s.tickClock (a + b)).step.toNat := by
    simp only [State.tickClock_step_toNat, State.tickClock_pulse_toNat, State.tickClock_clockResolution]
    cases s.clockResolution <;> simp only [ClockResolution.pps] <;> omega
  rw [State.tickClock_eq hp hst]
  rfl

/-- From a position of R107 any number of whole cycles leads back to it (R106 items 1 and 3). -/
theorem State.tickClock_cycles {s : State} (hp : s.pulse.toNat < s.clockResolution.pps) (k : Nat) :
    s.tickClock (32 * s.clockResolution.pps * k) = s := by
  have hlt := s.step.isLt
  have hsum : s.pulse.toNat + 32 * s.clockResolution.pps * k = s.pulse.toNat + s.clockResolution.pps * (32 * k) := by
    ring
  apply State.tickClock_eq (p := s.pulse) (st := s.step)
  · rw [State.tickClock_pulse_toNat, hsum, Nat.add_mul_mod_self_left, Nat.mod_eq_of_lt hp]
  · rw [State.tickClock_step_toNat, hsum, Nat.add_mul_div_left _ _ s.clockResolution.pps_mem.1, Nat.div_eq_of_lt hp]
    omega

/-- `m` calls of `TICK 1` are one `tickClock(m)`, but for the strobes, which no call raises where `m = 0`. -/
theorem execTimes_tick_one {s : State} (hf : s.fault = false) (hp : s.pulse.toNat < s.clockResolution.pps) (m : Nat) :
    ∃ t, execTimes m (.tick 1#8) s = .next t ∧ t.ack = (s.tickClock m).ack := by
  induction m generalizing s with
  | zero => exact ⟨s, rfl, congrArg State.ack (State.tickClock_cycles hp 0).symm⟩
  | succ m ih =>
    obtain ⟨t, ht, he⟩ := ih (s := (s.tickClock 1).ack) hf (s.tickClock_pulse_lt_pps 1)
    refine ⟨t, ?_, ?_⟩
    · rw [execTimes, exec_tick_of_good hf]
      exact ht
    · calc t.ack = ((s.tickClock 1).tickClock m).ack := he
        _ = (s.tickClock (m + 1)).ack := by rw [State.tickClock_add, Nat.add_comm]

/-! ### The obligations -/

/-- Settles O24: enough fuel gives the closed form, which is what `TICK` writes, and less fuel stops the loop early. -/
theorem tickRunsTheLoop : Obligations.TickRunsTheLoop := by
  refine ⟨fun s n hf fuel hfuel => ?_, fun pps t p hpps hp =>
    ⟨fun fuel => rollOver_eq hpps hp, fun fuel => pps_le_rollOver hpps p⟩⟩
  have hpps := s.clockResolution.pps_mem.1
  rw [rollOver_eq hpps s.step.isLt hfuel]
  exact ⟨Nat.mod_lt _ hpps, exec_tick_of_good hf n⟩

/-- Settles O26: items 1 and 3 are no cycle and one whole cycle; items 2 and 4 read the closed form. -/
theorem tickCornerCases : Obligations.TickCornerCases := by
  intro s hf
  refine ⟨fun hp => ?none, fun _ => ?normalise, fun hp n hn => ?cycle, fun hr => ?every⟩
  case none =>
    rw [exec_tick_of_good hf]
    exact congrArg (Host.Outcome.next ·.ack) (State.tickClock_cycles hp 0)
  case normalise => exact ⟨_, exec_tick_of_good hf _, s.tickClock_pulse_toNat 0, s.tickClock_step_toNat 0⟩
  case cycle =>
    rw [exec_tick_of_good hf, hn, ← Nat.mul_one (32 * _), State.tickClock_cycles hp 1]
    rfl
  case every =>
    refine ⟨_, exec_tick_of_good hf _, ?_, ?_⟩
    · simp [State.tickClock_pulse, hr, ClockResolution.pps, Nat.mod_one]
    · rw [State.ack_step, State.tickClock_step_toNat, hr, ClockResolution.pps, Nat.div_one, BitVec.toNat_ofNat]
      omega

/-- Settles O27: the two calls of `tickClock` are one of the sum; a faulted machine ignores all three. -/
theorem ticksAddUp : Obligations.TicksAddUp := by
  intro s a b n hn
  cases hf : s.fault with
  | true =>
    have hack : s.ack.fault = true := hf
    exact ⟨s.ack, exec_of_fault hf _, (exec_of_fault hack _).trans (exec_of_fault hf _).symm⟩
  | false =>
    have ha : (s.tickClock a.toNat).ack.fault = false := hf
    refine ⟨_, exec_tick_of_good hf a, ?_⟩
    rw [exec_tick_of_good hf n, ← hn, ← State.tickClock_add]
    exact exec_tick_of_good ha b

/-- Settles O28: quotient and remainder of `m` from the position `(0, 0)`. -/
theorem repeatedTickPosition : Obligations.RepeatedTickPosition := by
  intro s hf hp hst
  have hpps := s.clockResolution.pps_mem.1
  have position (m : Nat) : ∃ t, execTimes m (.tick 1#8) s = .next t ∧ t.pulse.toNat = m % s.clockResolution.pps ∧
      t.step.toNat = m / s.clockResolution.pps % 32 := by
    obtain ⟨t, ht, he⟩ := execTimes_tick_one hf (by rw [hp]; exact hpps) m
    refine ⟨t, ht, ?_, ?_⟩
    · rw [← t.ack_pulse, he, State.ack_pulse, State.tickClock_pulse_toNat, hp, BitVec.toNat_ofNat, Nat.zero_mod,
        Nat.zero_add]
    · rw [← t.ack_step, he, State.ack_step, State.tickClock_step_toNat, hp, hst]
      simp
  refine ⟨position, ?cycle, ?_, ?_, ?_⟩
  case cycle =>
    obtain ⟨t, ht, hpulse, hstep⟩ := position (32 * s.clockResolution.pps)
    refine ⟨t, ht, BitVec.eq_of_toNat_eq ?_, BitVec.eq_of_toNat_eq ?_⟩
    · rw [hpulse, Nat.mul_mod_left, BitVec.toNat_zero]
    · rw [hstep, Nat.mul_div_cancel _ hpps, BitVec.toNat_zero]
  all_goals
    intro hr
    rw [hr, ClockResolution.pps]

/-- A command that writes what `TICK` neither reads nor writes may be swapped with it. -/
theorem exec_swaps_with_tick {i : Instr} {f : State → State} {s : State} (n : Byte) (hf : s.fault = false)
    (hi : ∀ u : State, u.fault = false → exec i u = .next (f u)) (hfault : (f s).fault = false)
    (hswap : ((f s).tickClock n.toNat).ack = f (s.tickClock n.toNat).ack) :
    ∃ a b, exec i s = .next a ∧ exec (.tick n) s = .next b ∧ exec (.tick n) a = exec i b := by
  have htick : (s.tickClock n.toNat).ack.fault = false := hf
  exact ⟨f s, _, hi s hf, exec_tick_of_good hf n, by rw [exec_tick_of_good hfault, hswap, hi _ htick]⟩

/-- Settles O23: a setter writes no field that `TICK` reads or writes, and `TICK` none that the setter does. -/
theorem settersCommuteWithTick : Obligations.SettersCommuteWithTick := by
  intro s n i hw heval htick hsetres
  cases hf : s.fault with
  | true =>
    have hack : s.ack.fault = true := hf
    exact ⟨_, _, exec_of_fault hf i, exec_of_fault hf _, by rw [exec_of_fault hack, exec_of_fault hack]⟩
  | false =>
    cases i with
    | eval => exact absurd rfl heval
    | tick k => exact absurd rfl (htick k)
    | setx v => exact exec_swaps_with_tick n hf (fun _ hu => exec_setx_of_good hu v) hf rfl
    | sety v => exact exec_swaps_with_tick n hf (fun _ hu => exec_sety_of_good hu v) hf rfl
    | setdens ch v =>
      rcases channelOf_cases ch with ⟨c, _, hc⟩ | ⟨rfl, _⟩
      · exact exec_swaps_with_tick n hf (fun _ hu => exec_setdens_of_channel hu hc v) hf rfl
      · cases hw
    | setrand v => exact exec_swaps_with_tick n hf (fun _ hu => exec_setrand_of_good hu v) hf rfl
    | setres r => exact absurd rfl (hsetres r)
    | setmode m => exact exec_swaps_with_tick n hf (fun _ hu => exec_setmode_of_good hu m) hf rfl

/-- `TICK 1` at a known `pulse` and resolution. -/
theorem exec_tick_one {s : State} {p : BitVec 2} {res : ClockResolution} (hf : s.fault = false) (hp : s.pulse = p)
    (hr : s.clockResolution = res) :
    ∃ t, exec (.tick 1#8) s = .next t ∧ t.fault = false ∧ t.clockResolution = res ∧
      t.pulse = BitVec.ofNat 2 ((p.toNat + 1) % res.pps) ∧
      t.step = s.step + BitVec.ofNat 5 ((p.toNat + 1) / res.pps) := by
  subst hp hr
  exact ⟨_, exec_tick_of_good hf _, hf, rfl, s.tickClock_pulse 1, s.tickClock_step 1⟩

/-- `SETRES` with the code of a resolution writes the resolution and keeps the position (R104). -/
theorem exec_setres_code {s : State} (hf : s.fault = false) (res : ClockResolution) :
    ∃ t, exec (.setres res.code) s = .next t ∧ t.fault = false ∧ t.clockResolution = res ∧ t.pulse = s.pulse ∧
      t.step = s.step :=
  ⟨_, exec_setres_of_resolution hf (resolutionOf_code res), hf, rfl, rfl, rfl⟩

/-- Settles O29: the rows of R105's table are read off the closed form at its `pulse` and its new `pps`. -/
theorem resolutionChangeMisaligns : Obligations.ResolutionChangeMisaligns := by
  intro s hf
  obtain ⟨a4, ha4, hf4, hr4, hp4, hs4⟩ := exec_setres_code hf .ppqn4
  obtain ⟨a8, ha8, hf8, hr8, hp8, hs8⟩ := exec_setres_code hf .ppqn8
  obtain ⟨a24, ha24, hf24, hr24, hp24, hs24⟩ := exec_setres_code hf .ppqn24
  refine ⟨fun r t ht => ?frame, fun hp => ?two_to_4, fun hp => ?two_to_8, fun hp => ?one_to_4, fun hp => ?zero_to_24,
    fun hp => ?one_to_24⟩
  case frame =>
    rcases resolutionOf_cases r with ⟨res, hr⟩ | ⟨_, hr⟩
    · cases (exec_setres_of_resolution hf hr).symm.trans ht
      exact ⟨rfl, rfl⟩
    · cases (exec_setres_of_no_resolution hf hr).symm.trans ht
      exact ⟨State.raise_pulse _ _, State.raise_step _ _⟩
  case two_to_4 =>
    have heval := evalOffBoundaryReturnsZero a4 hf4 (by rw [hp4, hp]; decide)
    obtain ⟨b, hb, _, _, hbp, hbs⟩ := exec_tick_one hf4 (hp4.trans hp) hr4
    exact ⟨a4, _, b, ha4, heval, rfl, rfl, hb, hbp, hs4 ▸ hbs⟩
  case two_to_8 =>
    obtain ⟨b, hb, _, _, hbp, hbs⟩ := exec_tick_one hf8 (hp8.trans hp) hr8
    exact ⟨a8, b, ha8, hb, hbp, hs8 ▸ hbs⟩
  case one_to_4 =>
    have heval := evalOffBoundaryReturnsZero a4 hf4 (by rw [hp4, hp]; decide)
    obtain ⟨b, hb, _, _, hbp, hbs⟩ := exec_tick_one (s := { a4 with evt := 0#8, rspValid := true, evtValid := true })
      hf4 (hp4.trans hp) hr4
    exact ⟨a4, _, b, ha4, heval, rfl, rfl, hb, hbp, hs4 ▸ hbs⟩
  case zero_to_24 =>
    obtain ⟨b, hb, hbf, hbr, hbp, hbs⟩ := exec_tick_one hf24 (hp24.trans hp) hr24
    obtain ⟨c, hc, hcf, hcr, hcp, hcs⟩ := exec_tick_one hbf hbp hbr
    obtain ⟨d, hd, _, _, hdp, hds⟩ := exec_tick_one hcf hcp hcr
    have hb0 : b.step = s.step := by simpa [hs24, ClockResolution.pps] using hbs
    have hc0 : c.step = s.step := by simpa [hb0, ClockResolution.pps] using hcs
    exact ⟨a24, b, c, d, ha24, hb, hbp, hb0, hc, hcp, hc0, hd, hdp, hc0 ▸ hds⟩
  case one_to_24 =>
    obtain ⟨b, hb, hbf, hbr, hbp, hbs⟩ := exec_tick_one hf24 (hp24.trans hp) hr24
    obtain ⟨c, hc, _, _, hcp, hcs⟩ := exec_tick_one hbf hbp hbr
    have hb0 : b.step = s.step := by simpa [hs24, ClockResolution.pps] using hbs
    exact ⟨a24, b, c, ha24, hb, hbp, hb0, hc, hcp, hb0 ▸ hcs⟩

end Sys2Proof.Machine
end

section
/-! PROOF. The properties of `mix` (40_interpolator.md R81) and of the Interpolator's level (R89, R90). -/

namespace Sys2Proof.Machine

/-! ### `mix` (R81) -/

/-- A value blended with itself loses 1, if it has 1 to lose. -/
theorem mix_self_toNat (v b : Byte) : (mix v v b).toNat = v.toNat - 1 := by
  have hv := v.isLt
  have hb := b.isLt
  have hsum : mixSum v v b = v.toNat * 255 := by
    rw [mixSum, ← Nat.mul_add, Nat.add_sub_cancel' (by omega)]
  rw [mix_toNat, hsum]
  omega

theorem mix_zero_toNat (lo hi : Byte) : (mix lo hi 0#8).toNat = lo.toNat - 1 := by
  have hlo := lo.isLt
  have hsum : mixSum lo hi 0#8 = lo.toNat * 255 := by simp [mixSum]
  rw [mix_toNat, hsum]
  omega

theorem mixSum_mono {lo lo' hi hi' : Byte} (b : Byte) (hlo : lo.toNat ≤ lo'.toNat) (hhi : hi.toNat ≤ hi'.toNat) :
    mixSum lo hi b ≤ mixSum lo' hi' b :=
  Nat.add_le_add (Nat.mul_le_mul_right _ hhi) (Nat.mul_le_mul_right _ hlo)

/-- Weight moves from `lo` to `hi`: the sum is `255 * lo` and `b` times what `hi` has more. -/
theorem mixSum_eq_of_le {lo hi : Byte} (b : Byte) (h : lo.toNat ≤ hi.toNat) :
    mixSum lo hi b = 255 * lo.toNat + (hi.toNat - lo.toNat) * b.toNat := by
  have hb := b.isLt
  rw [mixSum]
  zify [h, (by omega : b.toNat ≤ 255)]
  ring

/-- Exchanging the two values exchanges the two weights. -/
theorem mixSum_comm (lo hi b : Byte) : mixSum lo hi b + mixSum hi lo b = 255 * (lo.toNat + hi.toNat) := by
  have hb := b.isLt
  simp only [mixSum]
  zify [(by omega : b.toNat ≤ 255)]
  ring

theorem mixSum_mono_balance {lo hi b b' : Byte} (h : lo.toNat ≤ hi.toNat) (hb : b.toNat ≤ b'.toNat) :
    mixSum lo hi b ≤ mixSum lo hi b' := by
  rw [mixSum_eq_of_le b h, mixSum_eq_of_le b' h]
  exact Nat.add_le_add_left (Nat.mul_le_mul_left _ hb) _

theorem mixSum_anti_balance {lo hi b b' : Byte} (h : hi.toNat ≤ lo.toNat) (hb : b.toNat ≤ b'.toNat) :
    mixSum lo hi b' ≤ mixSum lo hi b := by
  have hmono := mixSum_mono_balance h hb
  have hsum := mixSum_comm lo hi b
  have hsum' := mixSum_comm lo hi b'
  omega

theorem mix_le_mix_of_mixSum {lo hi b lo' hi' b' : Byte} (h : mixSum lo hi b ≤ mixSum lo' hi' b') :
    (mix lo hi b).toNat ≤ (mix lo' hi' b').toNat := by
  rw [mix_toNat, mix_toNat]
  exact Nat.div_le_div_right h

theorem balance_toNat_le (x : Byte) : (balance x).toNat ≤ 252 := by
  rw [balance_toNat]
  omega

/-- Settles O31: each property is read off the exact sum. -/
theorem mixProperties : Obligations.MixProperties := by
  refine ⟨mixSum_le, mix_toNat_le, fun v b => ⟨?self, mix_self_toNat v b⟩, fun lo hi => ⟨?zero, mix_zero_toNat lo hi⟩,
    fun lo hi => ?all, balance_toNat_le, fun lo hi => ?most, fun lo lo' hi hi' b hlo hhi => ?values,
    fun lo hi b b' hb => ⟨fun h => ?up, fun h => ?down⟩, fun b => ?zeros⟩
  case self =>
    rw [mix_self_toNat]
    omega
  case zero =>
    rw [mix_zero_toNat]
    omega
  case all => simp [mix_toNat, mixSum, Nat.mul_comm]
  case most => simp [mix_toNat, mixSum, Nat.mul_comm]
  case values => exact mix_le_mix_of_mixSum (mixSum_mono b hlo hhi)
  case up => exact mix_le_mix_of_mixSum (mixSum_mono_balance h hb)
  case down => exact mix_le_mix_of_mixSum (mixSum_anti_balance h hb)
  case zeros => simp [mix, mixSum]

/-! ### The level (R89, R90) -/

/-- The upper and lower blend are at most 254, and blending once more loses at least 1 again. -/
theorem blend_toNat_le (a b c d x y : Byte) : (blend a b c d x y).toNat ≤ 253 := by
  have htop := mix_toNat_le a b (balance x)
  have hbottom := mix_toNat_le c d (balance x)
  have hsum : mixSum (mix a b (balance x)) (mix c d (balance x)) (balance y) ≤ mixSum 254#8 254#8 (balance y) :=
    mixSum_mono _ htop hbottom
  exact (mix_le_mix_of_mixSum hsum).trans (mix_self_toNat 254#8 (balance y)).le

/-- Settles O33: a level is a blend; adding 2 to 253 gives 255. -/
theorem levelAtMost253 : Obligations.LevelAtMost253 :=
  ⟨fun _ _ _ _ _ => blend_toNat_le .., 2#8, by decide⟩

theorem blend_flat (v x y : Byte) : (blend v v v v x y).toNat = v.toNat - 2 := by
  have htop := mix_self_toNat v (balance x)
  rw [blend, mix_self_toNat, htop]
  omega

/-- Settles O35: the four corners are the only bytes that the Interpolator reads. -/
theorem flatMapIsLoweredByTwo : Obligations.FlatMapIsLoweredByTwo := by
  intro dm x y st c v h
  simp only [List.mem_cons, List.not_mem_nil, or_false, forall_eq_or_imp, forall_eq] at h
  obtain ⟨⟨hnn, hnf⟩, hfn, hff⟩ := h
  rw [interpolator, hnn, hnf, hfn, hff, blend_flat]

theorem balance_eq_zero {x : Byte} (hx : x.toNat % 64 = 0) : balance x = 0#8 := by
  apply BitVec.eq_of_toNat_eq
  rw [balance_toNat, hx, Nat.zero_mul, BitVec.toNat_zero]

/-- Settles O34: with both balances 0 the blends take the near corner alone, and each takes 1 from it. -/
theorem levelAtLatticePoints : Obligations.LevelAtLatticePoints := by
  intro dm x y st c hx hy
  rw [interpolator, nearNode_eq_ofNat, nearNode_eq_ofNat, blend, balance_eq_zero hx, balance_eq_zero hy, mix_zero_toNat,
    mix_zero_toNat]
  omega

end Sys2Proof.Machine
end

section
/-! PROOF. The comparator's lanes (42_threshold_comparator.md R122 to R125), and what `EVAL` reads and answers in each
of its cases (R72, R120, R127 to R131, R144 to R150). -/

namespace Sys2Proof.Machine

/-! ### The lanes -/

theorem laneTrigger_iff_addPerturbation (level p density : Byte) :
    laneTrigger level p density = true ↔ 255 - density.toNat < (addPerturbation level p).toNat :=
  decide_eq_true_iff

theorem laneAccent_iff_addPerturbation (level p density : Byte) :
    laneAccent level p density = true ↔ laneTrigger level p density = true ∧ 192 < (addPerturbation level p).toNat := by
  rw [laneAccent, Bool.and_eq_true, decide_eq_true_iff]

/-- Settles O38: the minimum of R122, at 0 and at the document's example. -/
theorem addPerturbationSaturates : Obligations.AddPerturbationSaturates := by
  refine ⟨addPerturbation_toNat, fun level => BitVec.eq_of_toNat_eq ?_, by decide⟩
  have hlt := level.isLt
  rw [addPerturbation_toNat, BitVec.toNat_ofNat]
  omega

/-- Settles O39: the forms of the comparison differ by arithmetic on a sum of at most 255. -/
theorem triggerComparison : Obligations.TriggerComparison := by
  intro level p density
  have hsum := (addPerturbation level p).isLt
  have hd := density.isLt
  refine ⟨rfl, laneTrigger_iff_addPerturbation .., ?sum, ?never, ?always, fun he => ?equal⟩
  case sum =>
    rw [laneTrigger_iff_addPerturbation]
    omega
  case never =>
    rw [← Bool.not_eq_true, laneTrigger_iff_addPerturbation, BitVec.toNat_ofNat]
    omega
  case always =>
    rw [laneTrigger_iff_addPerturbation, BitVec.toNat_ofNat]
    omega
  case equal =>
    rw [← Bool.not_eq_true, laneTrigger_iff_addPerturbation]
    omega

/-- Settles O40: with `density <= 63` the threshold itself is at least 192. -/
theorem accentComparison : Obligations.AccentComparison := by
  intro level p density
  refine ⟨laneAccent_iff_addPerturbation .., fun hd => ?_, by decide, by decide⟩
  rw [Bool.eq_iff_iff, laneAccent_iff_addPerturbation, laneTrigger_iff_addPerturbation]
  omega

/-! ### The cases of `EVAL` -/

section
variable {s : State} (hf : s.fault = false)
include hf

theorem exec_eval_off_boundary (hp : s.pulse ≠ 0#2) : exec .eval s = .next (s.respond 0#8) := by
  rw [exec_eval_of_good hf, evaluate_off_boundary hp]

theorem exec_eval_of_reroll (hp : s.pulse = 0#2) (hm : s.outputMode = .grid) (hs : s.step = 0#5) :
    exec .eval s = .next (s.reroll.respond s.reroll.gridEvent) := by
  rw [exec_eval_of_grid hf hp hm, State.perturbed, if_pos hs]

theorem exec_eval_of_no_reroll (hp : s.pulse = 0#2) (hm : s.outputMode = .grid) (hs : s.step ≠ 0#5) :
    exec .eval s = .next (s.respond s.gridEvent) := by
  rw [exec_eval_of_grid hf hp hm, State.perturbed, if_neg hs]

end

/-- The conditions of the five cases of `EVAL`: ignored, off the boundary, a Grid-mode evaluation with and without
re-roll, a Euclidean-mode evaluation (R120, R150, R176). -/
theorem eval_conditions (s : State) :
    s.fault = true ∨ s.fault = false ∧
      (s.pulse ≠ 0#2 ∨ s.pulse = 0#2 ∧
        ((s.outputMode = .grid ∧ (s.step = 0#5 ∨ s.step ≠ 0#5)) ∨ s.outputMode = .euclidean)) := by
  cases s.fault <;> cases s.outputMode <;> simp [em, em']

/-! ### The range of the event word -/

theorem gridModeWord_toNat_ge (trig acc : PerChannel Bool) (st : BitVec 5) :
    0x40 ≤ (gridModeWord trig acc st).toNat ∧ (st = 0#5 → 0xC0 ≤ (gridModeWord trig acc st).toNat) := by
  have hclock := gridModeWord_clock trig acc st
  have hreset := gridModeWord_reset trig acc st
  rw [BitVec.getLsbD, Nat.testBit_eq_decide_div_mod_eq, decide_eq_true_iff] at hclock hreset
  constructor
  · omega
  · intro hst
    have hbit := hreset.mpr hst
    omega

/-- Settles O42: the Grid-mode word has bit 6, and bit 7 at step 0; an accent is the trigger and one comparison more. -/
theorem eventWordRanges : Obligations.EventWordRanges := by
  intro s hf
  rcases eval_conditions s with hf' | ⟨_, hp | ⟨hp, ⟨hm, _⟩ | hm⟩⟩
  · simp [hf] at hf'
  · refine ⟨_, exec_eval_off_boundary hf hp, rfl, fun _ => rfl, fun h0 => absurd h0 hp, fun h0 => absurd h0 hp⟩
  · obtain ⟨hclock, hreset⟩ := gridModeWord_toNat_ge (PerChannel.ofFn s.perturbed.gridTrigger)
      (PerChannel.ofFn s.perturbed.gridAccent) s.perturbed.step
    refine ⟨_, exec_eval_of_grid hf hp hm, rfl, fun h0 => absurd hp h0,
      fun _ _ => ⟨hclock, fun hs => hreset (s.perturbed_step.trans hs), fun c => ?_⟩, fun _ h => by simp [hm] at h⟩
    rw [State.respond_evt, State.gridEvent_accent, State.gridEvent_trigger, State.gridAccent,
      laneAccent_iff_addPerturbation]
    exact And.left
  · exact ⟨_, exec_eval_of_euclidean hf hp hm, rfl, fun h0 => absurd hp h0, fun _ h => by simp [hm] at h,
      fun _ _ => euclideanModeWord_toNat_le _⟩

/-! ### What an evaluation reads -/

/-- Settles O44: the state that the first `EVAL` leaves differs in the outputs only, which no evaluation reads. -/
theorem repeatedEvalIsStable : Obligations.RepeatedEvalIsStable := by
  intro s h
  rcases eval_conditions s with hf | ⟨hf, hp | ⟨hp, ⟨hm, hs | hs⟩ | hm⟩⟩
  · exact ⟨s.ack, exec_of_fault hf _, exec_of_fault (s := s.ack) hf _⟩
  · exact ⟨s.respond 0#8, exec_eval_off_boundary hf hp, exec_eval_off_boundary (s := s.respond 0#8) hf hp⟩
  · simp [hp, hs] at h
  · exact ⟨s.respond s.gridEvent, exec_eval_of_no_reroll hf hp hm hs,
      exec_eval_of_no_reroll (s := s.respond s.gridEvent) hf hp hm hs⟩
  · simp [hp, hm] at h

/-- Settles O45: without perturbation the level is at most 253, and the threshold at least that. -/
theorem lowDensityNeverTriggers : Obligations.LowDensityNeverTriggers := by
  intro s c hf hp hm hpert hrand hdens
  obtain ⟨t, ht, _, hpert', hlanes, _⟩ := gridEvalResult.1 s hf hp hm
  have hzero : (t.partPerturbation.get c).toNat = 0 := by
    rw [hpert', hpert]
    split_ifs with hs
    · simp [hrand hs]
    · rfl
  have hlevel := levelAtMost253.1 s.DM s.x s.y s.step c
  obtain ⟨htrigger, haccent⟩ := hlanes c
  refine ⟨t, ht, BitVec.eq_of_toNat_eq hzero, ?_, ?_⟩
  · rw [← Bool.not_eq_true, htrigger]
    omega
  · rw [← Bool.not_eq_true, haccent]
    omega

/-- Of a DrumMap the Interpolator reads the bytes at one offset of the nodes (R84). -/
theorem interpolator_congr {dm dm' : Fin 5 → Fin 5 → Fin 96 → Byte} {x y : Byte} {st : BitVec 5} {c : Channel}
    (h : ∀ i j, dm' i j (nodeOffset c st) = dm i j (nodeOffset c st)) :
    interpolator dm' x y st c = interpolator dm x y st c := by
  simp only [interpolator, h]

/-- Settles O46: the two lanes are comparisons of equal numbers. -/
theorem channelsAreIndependent : Obligations.ChannelsAreIndependent := by
  intro s s' c hf hf' hp hp' hm hm' hx hy hst hrand hdens hpert hdraw hdm
  obtain ⟨t, ht, _, htp, hlanes, _⟩ := gridEvalResult.1 s hf hp hm
  obtain ⟨t', ht', _, htp', hlanes', _⟩ := gridEvalResult.1 s' hf' hp' hm'
  have hpert_eq : t'.partPerturbation.get c = t.partPerturbation.get c := by
    apply BitVec.eq_of_toNat_eq
    rw [htp, htp', hst, hdraw, hrand, hpert]
  obtain ⟨htrigger, haccent⟩ := hlanes c
  obtain ⟨htrigger', haccent'⟩ := hlanes' c
  rw [hx, hy, hst, interpolator_congr hdm, hpert_eq, hdens] at htrigger' haccent'
  exact ⟨t, t', ht, ht', Bool.eq_iff_iff.mpr (htrigger'.trans htrigger.symm),
    Bool.eq_iff_iff.mpr (haccent'.trans haccent.symm), hpert_eq⟩

/-- Settles O48: a re-roll stores the scaled draws; every other command keeps the random source. -/
theorem drawsOnlyAtReroll : Obligations.DrawsOnlyAtReroll := by
  intro i s
  by_cases h : Rerolls i s
  · obtain ⟨rfl, hf, hp, hm, hs⟩ := h
    refine ⟨_, exec_eval_of_reroll hf hp hm hs, ?_⟩
    rw [if_pos ⟨rfl, hf, hp, hm, hs⟩]
    exact ⟨rfl, rfl, PerChannel.get_ofFn _⟩
  · obtain ⟨t, ht, hc⟩ := exec_completes i s
    refine ⟨t, ht, ?_⟩
    rw [if_neg h]
    exact hc.draws h

end Sys2Proof.Machine
end

section
/-! PROOF. State that a command does not read (R127, R131, R144, R200), and Euclidean-mode evaluation in sequence
(43_euclidean.md R145, R147). -/

namespace Sys2Proof.Machine

/-- An ill-formed term on a machine without fault raises `IllegalCommand` (log 10). -/
theorem exec_of_ill_formed {i : Instr} {s : State} (hf : s.fault = false) (hi : ¬WellFormed i) :
    exec i s = .next { s with fault := true, faultCode := 1#2 }.ack := by
  cases i with
  | setdens ch v =>
    have hch : ch = 3#2 := by simpa [WellFormed, Instr.wellFormed] using hi
    rw [hch, exec_setdens_of_no_channel hf (by decide), raise_of_good _ hf, Cause.code]
  | setres r =>
    have hr : r = 3#2 := by simpa [WellFormed, Instr.wellFormed] using hi
    rw [hr, exec_setres_of_no_resolution hf rfl, raise_of_good _ hf, Cause.code]
  | eval | tick | setx | sety | setrand | setmode => exact absurd rfl hi

/-- No command reads what the host will do next, and `TICK` and the setters other than `SETRAND` do not read
`randomness` either. -/
theorem exec_with_other_randomness {i : Instr} (s : State) (v : Byte) (l : List HostInput) (heval : i ≠ .eval)
    (hsetrand : ∀ u, i ≠ .setrand u) :
    ∃ t, exec i s = .next t ∧ t.randomness = s.randomness ∧ t.inputs = s.inputs ∧
      exec i { s with randomness := v, inputs := l } = .next { t with randomness := v, inputs := l } := by
  set s' : State := { s with randomness := v, inputs := l }
  rcases Bool.eq_false_or_eq_true s.fault with hf | hf
  · exact ⟨_, exec_of_fault hf i, rfl, rfl, exec_of_fault (s := s') hf i⟩
  by_cases hw : WellFormed i
  case neg => exact ⟨_, exec_of_ill_formed hf hw, rfl, rfl, exec_of_ill_formed (s := s') hf hw⟩
  cases i with
  | eval => exact absurd rfl heval
  | tick n => exact ⟨_, exec_tick_of_good hf n, rfl, rfl, exec_tick_of_good (s := s') hf n⟩
  | setx u => exact ⟨_, exec_setx_of_good hf u, rfl, rfl, exec_setx_of_good (s := s') hf u⟩
  | sety u => exact ⟨_, exec_sety_of_good hf u, rfl, rfl, exec_sety_of_good (s := s') hf u⟩
  | setdens ch u =>
    rcases channelOf_cases ch with ⟨c, _, hc⟩ | ⟨rfl, _⟩
    · exact ⟨_, exec_setdens_of_channel hf hc u, rfl, rfl, exec_setdens_of_channel (s := s') hf hc u⟩
    · cases hw
  | setrand u => exact absurd rfl (hsetrand u)
  | setres r =>
    rcases resolutionOf_cases r with ⟨res, hr⟩ | ⟨rfl, _⟩
    · exact ⟨_, exec_setres_of_resolution hf hr, rfl, rfl, exec_setres_of_resolution (s := s') hf hr⟩
    · cases hw
  | setmode m => exact ⟨_, exec_setmode_of_good hf m, rfl, rfl, exec_setmode_of_good (s := s') hf m⟩

/-- Settles O47: of the cases of `EVAL` only the re-roll reads `randomness`, and `SETRAND` replaces it. -/
theorem randomnessActsOnlyAtReroll : Obligations.RandomnessActsOnlyAtReroll := by
  refine ⟨fun i s v hsetrand hreroll => ?other, fun s u v hf => ?setrand⟩
  case setrand => exact ⟨_, exec_setrand_of_good hf u, exec_setrand_of_good (s := { s with randomness := v }) hf u⟩
  case other =>
    rcases eq_or_ne i .eval with rfl | heval
    · rcases eval_conditions s with hf | ⟨hf, hp | ⟨hp, ⟨hm, hs | hs⟩ | hm⟩⟩
      · exact ⟨_, exec_of_fault hf _, exec_of_fault (s := { s with randomness := v }) hf _⟩
      · exact ⟨_, exec_eval_off_boundary hf hp, exec_eval_off_boundary (s := { s with randomness := v }) hf hp⟩
      · exact absurd ⟨rfl, hf, hp, hm, hs⟩ hreroll
      · exact ⟨_, exec_eval_of_no_reroll hf hp hm hs,
          exec_eval_of_no_reroll (s := { s with randomness := v }) hf hp hm hs⟩
      · exact ⟨_, exec_eval_of_euclidean hf hp hm, exec_eval_of_euclidean (s := { s with randomness := v }) hf hp hm⟩
    · obtain ⟨t, ht, _, hinputs, he⟩ := exec_with_other_randomness s v s.inputs heval hsetrand
      exact ⟨t, ht, he.trans (by rw [hinputs])⟩

/-- Settles O53: each case of `EVAL` is the same function of a state whatever the other mode's fields are. -/
theorem modesReadTheirOwnState : Obligations.ModesReadTheirOwnState := by
  intro s
  rcases eval_conditions s with hf | ⟨hf, hp | ⟨hp, ⟨hm, hs | hs⟩ | hm⟩⟩
  · exact ⟨_, exec_of_fault hf _, fun _ x y r st p dm => exec_of_fault (s := { s with
        x := x, y := y, randomness := r, step := st, partPerturbation := p, drumMap := dm }) hf _,
      fun _ e eu => exec_of_fault (s := { s with eulideanStep := e, euclideanTable := eu }) hf _⟩
  · exact ⟨_, exec_eval_off_boundary hf hp, fun _ x y r st p dm => exec_eval_off_boundary (s := { s with
        x := x, y := y, randomness := r, step := st, partPerturbation := p, drumMap := dm }) hf hp,
      fun _ e eu => exec_eval_off_boundary (s := { s with eulideanStep := e, euclideanTable := eu }) hf hp⟩
  · exact ⟨_, exec_eval_of_reroll hf hp hm hs, fun h => by simp [hm] at h,
      fun _ e eu => exec_eval_of_reroll (s := { s with eulideanStep := e, euclideanTable := eu }) hf hp hm hs⟩
  · exact ⟨_, exec_eval_of_no_reroll hf hp hm hs, fun h => by simp [hm] at h,
      fun _ e eu => exec_eval_of_no_reroll (s := { s with eulideanStep := e, euclideanTable := eu }) hf hp hm hs⟩
  · exact ⟨_, exec_eval_of_euclidean hf hp hm, fun _ x y r st p dm => exec_eval_of_euclidean (s := { s with
        x := x, y := y, randomness := r, step := st, partPerturbation := p, drumMap := dm }) hf hp hm,
      fun h => by simp [hm] at h⟩

/-! ### Euclidean-mode evaluation in sequence -/

/-- Settles O52: the lookup finds the word at density's top three bits, and `EVAL` is a well-formed command. -/
theorem invariantViolationUnreachable : Obligations.InvariantViolationUnreachable := by
  intro s
  refine ⟨fun c => ⟨?quotient, by rw [State.pattern_eq, Option.isSome_some]⟩, fun hf => ?eval⟩
  case quotient =>
    have hlt := (s.density.get c).isLt
    omega
  case eval =>
    obtain ⟨t, ht, _, _, _, _, _, _, _, _, _, hfault⟩ := onlyListedCommandsWrite .eval s
    obtain ⟨hkept, hcode⟩ := hfault rfl
    exact ⟨t, ht, hkept.trans hf, hcode⟩

/-- What `m` Euclidean-mode evaluations leave: a machine that evaluates the same masks in the same mode, with its
cursors `m` places on (R143). -/
structure EuclideanAfter (m : Nat) (s t : State) : Prop where
  fault : t.fault = false
  pulse : t.pulse = 0#2
  outputMode : t.outputMode = .euclidean
  density : t.density = s.density
  euclideanTable : t.euclideanTable = s.euclideanTable
  cursor : ∀ c, (t.eulideanStep.get c).toNat = ((s.eulideanStep.get c).toNat + m) % 32

theorem execTimes_eval_of_euclidean {s : State} (hf : s.fault = false) (hp : s.pulse = 0#2)
    (hm : s.outputMode = .euclidean) (m : Nat) : ∃ t, execTimes m .eval s = .next t ∧ EuclideanAfter m s t := by
  induction m generalizing s with
  | zero => exact ⟨s, rfl, hf, hp, hm, rfl, rfl, fun c => (Nat.mod_eq_of_lt (s.eulideanStep.get c).isLt).symm⟩
  | succ m ih =>
    have hexec := exec_eval_of_euclidean hf hp hm
    set u := s.advanceCursors.respond (euclideanModeWord (PerChannel.ofFn s.euclideanTrigger))
    obtain ⟨t, ht, hafter⟩ := ih (s := u) hf hp hm
    refine ⟨t, by rw [execTimes, hexec]; exact ht, { hafter with cursor := fun c => ?_ }⟩
    have hu : (u.eulideanStep.get c).toNat = ((s.eulideanStep.get c).toNat + 1) % 32 := s.advanceCursors_cursor_toNat c
    have hcursor := hafter.cursor c
    omega

/-- Settles O51: the next evaluation reads each mask at the cursor that the first `m` leave. -/
theorem euclideanPeriodicity : Obligations.EuclideanPeriodicity := by
  intro s hf hp hm m
  obtain ⟨t, ht, hafter⟩ := execTimes_eval_of_euclidean hf hp hm m
  obtain ⟨u, hu, _, _, htriggers, _⟩ := euclideanEvalResult t hafter.fault hafter.pulse hafter.outputMode
  have hEU : t.EU = s.EU := by
    funext n
    rw [State.EU, hafter.euclideanTable, State.EU]
  refine ⟨t, u, ht, hu, fun c => ?_⟩
  rw [htriggers, hafter.density, hafter.cursor, hEU]

end Sys2Proof.Machine
end

section
/-! PROOF. Runs and their observation (70_reset_and_hazards.md R203). -/

namespace Sys2Proof.Machine

/-! ### One command of a run -/

/-- The word of `EVAL` is the one word that decodes to it (R63). -/
theorem decode_eq_eval_iff (w : CmdWord) : decode w = .ok .eval ↔ w = 0x1000#16 := by
  constructor
  · intro h
    exact (encodeOfDecode w .eval h).1.symm
  · rintro rfl
    exact decodeOfEncode .eval rfl

/-- A command word is taken in one step, which sets the fault if the word is reserved (R173) and returns an event word
if the word is that of `EVAL` and no fault came before (R73, R176). -/
theorem step_of_commandWord {s : State} {w : CmdWord} {rest : List HostInput} (hs : s.inputs = .command w :: rest) :
    ∃ t, step s = .next t ∧ t.inputs = rest ∧ t.rspValid = true ∧ (t.fault = true ↔ s.fault = true ∨ ReservedWord w) ∧
      (t.evtValid = true ↔ s.fault = false ∧ w = 0x1000#16) := by
  rw [← reservedWordsAreRefused, ← decode_eq_eval_iff]
  cases hd : decode w with
  | ok i =>
    obtain ⟨t, ht, hc⟩ := exec_completes i (s.taking i rest)
    have hfault : t.fault = s.fault := hc.fault (encodeOfDecode w i hd).2
    have hevt : t.evtValid = (!s.fault && readsTables i) := hc.evtValid
    exact ⟨t, (step_of_command hs hd).trans ht, hc.inputs, hc.rspValid, by simp [hfault], by simp [hevt, readsTables]⟩
  | error r => exact ⟨_, step_of_reserved hs hd, by simp⟩

/-! ### No command reads what the host will do next -/

theorem exec_withInputs (i : Instr) (s : State) (l : List HostInput) :
    ∃ t, exec i s = .next t ∧ exec i { s with inputs := l } = .next { t with inputs := l } := by
  set s' : State := { s with inputs := l }
  rcases Bool.eq_false_or_eq_true s.fault with hf | hf
  · exact ⟨_, exec_of_fault hf i, exec_of_fault (s := s') hf i⟩
  rcases eq_or_ne i .eval with rfl | heval
  · rcases eval_conditions s with hf' | ⟨_, hp | ⟨hp, ⟨hm, hs | hs⟩ | hm⟩⟩
    · simp [hf] at hf'
    · exact ⟨_, exec_eval_off_boundary hf hp, exec_eval_off_boundary (s := s') hf hp⟩
    · exact ⟨_, exec_eval_of_reroll hf hp hm hs, exec_eval_of_reroll (s := s') hf hp hm hs⟩
    · exact ⟨_, exec_eval_of_no_reroll hf hp hm hs, exec_eval_of_no_reroll (s := s') hf hp hm hs⟩
    · exact ⟨_, exec_eval_of_euclidean hf hp hm, exec_eval_of_euclidean (s := s') hf hp hm⟩
  by_cases hsetrand : ∃ u, i = .setrand u
  · obtain ⟨u, rfl⟩ := hsetrand
    exact ⟨_, exec_setrand_of_good hf u, exec_setrand_of_good (s := s') hf u⟩
  · obtain ⟨t, ht, hrand, _, he⟩ := exec_with_other_randomness s s.randomness l heval fun u hu => hsetrand ⟨u, hu⟩
    exact ⟨t, ht, he.trans (by rw [hrand])⟩

theorem raise_withInputs (s : State) (c : Cause) (l : List HostInput) :
    { s with inputs := l }.raise c = { s.raise c with inputs := l } := by
  cases hf : s.fault <;> simp [State.raise, State.ack, hf]

/-- A step that takes a command leaves the same state whatever the host does afterwards. -/
theorem step_withInputs {s t : State} {w : CmdWord} {rest : List HostInput} (hs : s.inputs = .command w :: rest)
    (ht : step s = .next t) (l : List HostInput) :
    step { s with inputs := .command w :: l } = .next { t with inputs := l } := by
  cases hd : decode w with
  | ok i =>
    obtain ⟨u, hu, hl⟩ := exec_withInputs i (s.taking i rest) l
    cases ((step_of_command hs hd).trans hu).symm.trans ht
    exact (step_of_command rfl hd).trans hl
  | error r =>
    cases (step_of_reserved hs hd).symm.trans ht
    exact (step_of_reserved rfl hd).trans (congrArg Host.Outcome.next (raise_withInputs { s with inputs := rest } _ l))

/-! ### One command more -/

theorem returnedEvents_of_command {s t : State} (h : step s = .next t) (hrsp : t.rspValid = true) (k pos : Nat) :
    returnedEvents (k + 1) pos s = t.returned pos ++ returnedEvents k (pos + 1) t := by
  rw [returnedEvents_succ h, if_pos hrsp]

/-- The run of a list of commands, and the run of the list with one command more, which takes one step more. -/
theorem run_append (cmds : List CmdWord) (w : CmdWord) {s : State} (hs : s.inputs = cmds.map .command) :
    ∃ t u, stepTimes cmds.length s = .next t ∧ t.inputs = [] ∧ step (t.offer w) = .next u ∧
      stepTimes (cmds.length + 1) { s with inputs := (cmds ++ [w]).map .command } = .next u ∧
      ∀ pos, returnedEvents (cmds.length + 1) pos { s with inputs := (cmds ++ [w]).map .command } =
        returnedEvents cmds.length pos s ++ u.returned (pos + cmds.length) := by
  induction cmds generalizing s with
  | nil =>
    obtain ⟨u, hu, _⟩ := step_of_commandWord (s := s.offer w) rfl
    have hoffer : { s with inputs := ([] ++ [w]).map .command } = s.offer w := by
      rw [State.offer, hs]
      rfl
    rw [hoffer]
    exact ⟨s, u, rfl, hs, hu, stepTimes_succ hu 0, fun pos => (returnedEvents_succ hu 0 pos).trans (List.append_nil _)⟩
  | cons c cs ih =>
    obtain ⟨v, hv, hrest, hrsp, _⟩ := step_of_commandWord hs
    obtain ⟨t, u, ht, hempty, hu, hmore, hevents⟩ := ih hrest
    have hstep : step { s with inputs := ((c :: cs) ++ [w]).map .command } =
        .next { v with inputs := (cs ++ [w]).map .command } := step_withInputs hs hv _
    refine ⟨t, u, (stepTimes_succ hv _).trans ht, hempty, hu, (stepTimes_succ hstep _).trans hmore, fun pos => ?_⟩
    rw [List.length_cons, returnedEvents_of_command hstep hrsp, returnedEvents_of_command hv hrsp, hevents,
      List.append_assoc, Nat.add_assoc pos 1, Nat.add_comm 1]
    rfl

/-- Settles O58: the empty run is the reset; one command more is the last step of the longer run. -/
theorem runObservationGrows : Obligations.RunObservationGrows := by
  refine ⟨fun s => rfl, fun s cmds w => ?_⟩
  obtain ⟨t, u, ht, hempty, hu, hmore, hevents⟩ := run_append cmds w (s.beginRun_inputs cmds)
  have hlength : (cmds ++ [w]).length = cmds.length + 1 := List.length_append
  have hobserve : observe s (cmds ++ [w]) = _ := observe_of_next (by rw [hlength]; exact hmore)
  refine ⟨t, u, _, ht, hempty, step_of_idle hempty, t.quiet_record, observe_of_next ht, rfl, hu, hobserve.trans ?_⟩
  rw [hlength]
  refine congrArg (fun events => some (Observation.mk u.record events)) ((hevents 0).trans ?_)
  rw [Nat.zero_add, State.returned]

/-! ### Good runs -/

/-- The positions of the `EVAL`s of a command list, counted from 0 (log 19). -/
def evalPositions (cmds : List CmdWord) : List Nat :=
  (List.range cmds.length).filter fun p => cmds[p]? == some 0x1000#16

theorem evalPositions_append (cmds : List CmdWord) (w : CmdWord) :
    evalPositions (cmds ++ [w]) = evalPositions cmds ++ if w = 0x1000#16 then [cmds.length] else [] := by
  have hold : (List.range cmds.length).filter (fun p => (cmds ++ [w])[p]? == some 0x1000#16) = evalPositions cmds :=
    List.filter_congr fun p hp => by rw [List.getElem?_append_left (List.mem_range.mp hp)]
  rw [evalPositions, List.length_append, List.length_singleton, List.range_succ, List.filter_append, hold]
  simp [List.filter_singleton]

/-- Settles O59, by one command more: the step that takes it raises a fault if the word is reserved, and returns an
event word if it is that of `EVAL` and the run has been good. -/
theorem goodRunsAreRunsWithoutReservedWords : Obligations.GoodRunsAreRunsWithoutReservedWords := by
  intro s cmds
  change ∃ o, observe s cmds = some o ∧ _ ∧ List.Sublist _ (evalPositions cmds) ∧ (_ → _ = evalPositions cmds)
  induction cmds using List.reverseRecOn with
  | nil => exact ⟨_, runObservationGrows.1 s, iff_of_true rfl (by simp), List.nil_sublist _, fun _ => rfl⟩
  | append_singleton cmds w ih =>
    obtain ⟨o, ho, hgood, hsub, heq⟩ := ih
    obtain ⟨t, u, o', _, _, _, _, ho', hfinal, hu, hmore⟩ := runObservationGrows.2 s cmds w
    obtain ⟨u', hu', _, _, hfault, hevt⟩ := step_of_commandWord (s := t.offer w) rfl
    cases ho.symm.trans ho'
    cases hu.symm.trans hu'
    have hgoodBefore : o.Good ↔ t.fault = false := by rw [Observation.Good, hfinal, State.record_fault]
    have hgoodAfter : u.fault = false ↔ t.fault = false ∧ ¬ReservedWord w := by
      rw [← Bool.not_eq_true, hfault, not_or, Bool.not_eq_true]
      rfl
    have hevt : u.evtValid = true ↔ t.fault = false ∧ w = 0x1000#16 := hevt
    refine ⟨_, hmore, ?good, ?sublist, fun hu => ?all⟩
    case good =>
      simp only [Observation.Good, State.record_fault, hgoodAfter, ← hgoodBefore, hgood, List.forall_mem_append,
        List.forall_mem_singleton]
    case sublist =>
      rw [evalPositions_append, List.map_append]
      refine hsub.append ?_
      split_ifs with he hw
      · exact List.Sublist.refl _
      · exact absurd (hevt.mp he).2 hw
      · exact List.nil_sublist _
      · exact List.nil_sublist _
    case all =>
      have ht := (hgoodAfter.mp hu).1
      rw [evalPositions_append, List.map_append, heq (hgoodBefore.mpr ht)]
      simp [hevt, ht, apply_ite]

end Sys2Proof.Machine
end
